-- ==== Sys2Proof/Word.lean ====
section
/-! DEFINITION. The words of the machine: bytes, instruction words and register numbers. -/

namespace Sys2Proof

/-- One byte of memory (spec/10_state.md R43). -/
abbrev Byte := BitVec 8

/-- One instruction word, always 32 bits (spec/30_encoding.md R90). -/
abbrev InstrWord := BitVec 32

/-- A register field: the number, 0 to 31, of an integer or a floating-point register (spec/30_encoding.md R91). -/
abbrev RegNum := BitVec 5

end Sys2Proof
end

