-- ==== Sys2Proof/Config.lean ====
section
/-! DEFINITION. The parameters of the model (spec/00_scope.md R8, R9), plain data fixed for a run, and the free values of
the spec (R11 `draw`), uninterpreted constants: nothing in Lean can prove a value of one. -/

namespace Sys2Proof

/-- `XLEN`, 32 or 64 (spec/00_scope.md R8). -/
inductive Xlen where
  /-- `XLEN` = 32. -/
  | rv32
  /-- `XLEN` = 64. -/
  | rv64
deriving DecidableEq, Repr

/-- The number of bits of an integer register. -/
def Xlen.bits : Xlen → Nat
  | .rv32 => 32
  | .rv64 => 64

/-- One region of `MEM` with its permissions (spec/20_memory.md R70). -/
structure Region where
  /-- The first address. -/
  base : Nat
  /-- The number of bytes. -/
  size : Nat
  /-- Loads are permitted. -/
  r : Bool
  /-- Stores are permitted. -/
  w : Bool
  /-- Instruction fetch is permitted. -/
  x : Bool
  /-- `lr`, `sc` and AMOs are permitted. -/
  a : Bool
deriving DecidableEq, Repr

/-- `UNWRITTEN_REG` for the bytes of memory (spec/10_state.md R45). -/
inductive Unwritten where
  /-- Reading a byte of no known value stops the model. -/
  | fault
  /-- Reading such a byte is a draw. -/
  | anyValue
deriving DecidableEq, Repr

/-- The tables of the source, by which rows are available (spec/00_scope.md R9). -/
inductive InstrTable where
  /-- RV32I but for `lwu`. -/
  | rv32i
  /-- The row `lwu`. -/
  | lwuRow
  /-- RV64I. -/
  | rv64i
  /-- RV32M. -/
  | rv32m
  /-- RV64M. -/
  | rv64m
  /-- RV32A. -/
  | rv32a
  /-- RV64A. -/
  | rv64a
  /-- RV32S but for the three rows of the high counter halves. -/
  | rv32s
  /-- The rows `rdcycleh`, `rdtimeh`, `rdinstreth`. -/
  | counterHighRows
  /-- RV32F. -/
  | rv32f
  /-- RV32FD. -/
  | rv32fd
  /-- RV64F. -/
  | rv64f
  /-- RV32D. -/
  | rv32d
  /-- RV64D. -/
  | rv64d
  /-- RV32Q. -/
  | rv32q
  /-- RV64Q. -/
  | rv64q
  /-- RV128Q. -/
  | rv128q
deriving DecidableEq, Repr

/-- The parameters of the model (spec/00_scope.md R8). `COUNTER` and the draws are the uninterpreted constants below; `FP`
is implemented (spec/45_rv32f_rv64f.md R291). -/
structure Config where
  /-- `XLEN`. -/
  xlen : Xlen
  /-- `EXT_M`. -/
  extM : Bool
  /-- `EXT_A`. -/
  extA : Bool
  /-- `EXT_F`. -/
  extF : Bool
  /-- `EXT_D`. -/
  extD : Bool
  /-- `EXT_Q`. -/
  extQ : Bool
  /-- `EXT_SYS`. -/
  extSys : Bool
  /-- `RESET_PC`. -/
  resetPc : BitVec 64
  /-- `MEM`. -/
  regions : List Region
  /-- `FMINMAX_2008`. -/
  fminmax2008 : Bool
  /-- `UNWRITTEN_REG`, for the bytes of memory. -/
  unwritten : Unwritten
deriving DecidableEq, Repr

/-- `FLEN`, the width of a floating-point register (spec/00_scope.md R8). -/
def Config.flen (c : Config) : Nat :=
  if c.extQ then 128 else if c.extD then 64 else if c.extF then 32 else 0

/-- Two regions share no address. -/
def Region.disjoint (g h : Region) : Bool := g.base + g.size ≤ h.base || h.base + h.size ≤ g.base

/-- The constraints of spec/00_scope.md R8 and spec/20_memory.md R70 on the parameters. -/
abbrev Config.wf (c : Config) : Prop :=
  (c.extD → c.extF) ∧ (c.extQ → c.extD) ∧ (c.extF → c.extSys) ∧
  c.resetPc.toNat % 4 = 0 ∧ c.resetPc.toNat < 2 ^ c.xlen.bits ∧
  (∀ g ∈ c.regions, g.base + g.size ≤ 2 ^ c.xlen.bits) ∧ c.regions.Pairwise (fun g h => g.disjoint h)

/-- The three 64-bit counters (spec/10_state.md R40). -/
inductive Counter where
  /-- `cycle`. -/
  | cycle
  /-- `time`. -/
  | time
  /-- `instret`. -/
  | instret
deriving DecidableEq, Repr

/-- DESIGN CHOICE (log 8), safe: `COUNTER`, the free 64-bit answer to the counter read that is draw `n` of the run
(spec/10_state.md R40). -/
opaque Config.counter (c : Counter) (n : Nat) : BitVec 64

/-- DESIGN CHOICE (log 7), safe: whether the `sc` whose reservation matches succeeds, for draw `n`
(spec/43_rv32a_rv64a.md R231). -/
opaque Config.scSucceeds (n : Nat) : Bool

/-- DESIGN CHOICE (log 9), safe: whether `fmin` or `fmax` of opposite zeros delivers the negative one, for draw `n`
(spec/45_rv32f_rv64f.md R299). -/
opaque Config.zeroIsNegative (n : Nat) : Bool

/-- DESIGN CHOICE (log 10), safe: what the byte of no known value at an address reads as, for draw `n`
(spec/10_state.md R45). -/
opaque Config.freeByte (n addr : Nat) : Byte

end Sys2Proof
end

