-- ==== Sys2Proof/Machine/State.lean ====
section
/-! DEFINITION. The state of the hart (spec/10_state.md), the reasons a step stops, and the state after reset (R46). -/

namespace Sys2Proof.Machine

/-- The synchronous exceptions (spec/60_exceptions.md R440). -/
inductive Exception where
  /-- A taken branch or jump to a target that is no multiple of 4. -/
  | instructionAddressMisaligned
  /-- A fetch from outside every executable region. -/
  | instructionAccessFault
  /-- A word that is no available instruction. -/
  | illegalInstruction
  /-- `ebreak`. -/
  | breakpoint
  /-- A load or `lr` from an address that is no multiple of its width. -/
  | loadAddressMisaligned
  /-- A load or `lr` touching a byte it has no permission for. -/
  | loadAccessFault
  /-- A store, `sc` or AMO at an address that is no multiple of its width. -/
  | storeAmoAddressMisaligned
  /-- A store, `sc` or AMO touching a byte it has no permission for. -/
  | storeAmoAccessFault
  /-- `ecall`. -/
  | environmentCall
deriving DecidableEq, Repr

/-- Why the machine stops with a fault. -/
inductive Fault where
  /-- Trap(E, info, pc): the instruction at `pc` raised `e`; the run ends and the state is that before the instruction
  (spec/60_exceptions.md R445, R446). Raised by every instruction that raises. Safe: the spec ends the run here. -/
  | trap (e : Exception) (info pc : BitVec 64)
deriving DecidableEq, Repr

/-- Why the model has no step: Refused(what, pc) of spec/60_exceptions.md R465. -/
inductive Refusal where
  /-- The model has not given the instruction a meaning. Raised by no arm that has one. Safe. -/
  | notModelled (mnemonic : String)
  /-- `uret`, `sret`, `hret`, `mret`: they act on trap state the spec says it does not have (spec/60_exceptions.md R447).
  Safe: the spec refuses them. -/
  | trapReturnUndefined (mnemonic : String) (pc : BitVec 64)
  /-- `dret`: it acts on the debug unit, which the spec does not describe (spec/60_exceptions.md R447, R463). Safe. -/
  | debugReturnUndefined (mnemonic : String) (pc : BitVec 64)
  /-- `sfence.vm`: it acts on the translation unit, which the spec does not describe (spec/44_rv32s.md R268). Safe. -/
  | translationFenceUndefined (mnemonic : String) (pc : BitVec 64)
  /-- `wfi`: it waits for an interrupt, and no rule says what ends the wait (spec/44_rv32s.md R269). Safe. -/
  | waitForInterruptUndefined (mnemonic : String) (pc : BitVec 64)
  /-- The fetch at `pc` touches a byte written since the last `fence.i` (spec/20_memory.md R75). Raised by the fetch. Safe. -/
  | dirtyFetch (pc : BitVec 64)
  /-- The instruction at `pc` reads the byte at `addr`, which has no known value, and `UNWRITTEN_REG` is `fault`
  (spec/10_state.md R45). Raised by the fetch and by every read of memory. Safe. -/
  | unwrittenByte (addr : Nat) (pc : BitVec 64)
deriving DecidableEq, Repr

/-- The whole state. Every register stands in a container of the widest width the parameters allow; the accessors of
Machine/Ops.lean use its low `XLEN` or `FLEN` bits and keep the others zero (log 11). -/
structure State where
  /-- The parameters, which no step changes (spec/00_scope.md R8; log 1). -/
  cfg : Config
  /-- `x0` .. `x31` (R30); entry 0 is never read or written (R31). -/
  x : Vector (BitVec 64) 32
  /-- The address of the instruction being executed (R33). -/
  pc : BitVec 64
  /-- `f0` .. `f31` (R36). -/
  f : Vector (BitVec 128) 32
  /-- The rounding mode field of `fcsr` (R37). -/
  frm : BitVec 3
  /-- The accrued exception flags of `fcsr`, NV DZ OF UF NX from bit 4 down (R37). -/
  fflags : BitVec 5
  /-- The load reservation (R39). -/
  lr : Option (BitVec 64)
  /-- The bytes of known value (R43), addresses strictly rising; an address not listed has no known value (log 4). -/
  mem : List Host.Cell
  /-- The addresses written since the last `fence.i` (R44), strictly rising. -/
  dirty : List Nat
  /-- The model's own: how many draws the run has taken (log 6). -/
  draws : Nat
deriving DecidableEq, Repr

/-- The initial values the environment gives chosen registers, the fourth parameter of a run (spec/70_reset_and_hazards.md
R470, R476). DESIGN CHOICE (log 5), safe: of two entries for one register the first counts. One for `x0` is discarded
(R31). -/
structure InitialValues where
  /-- Values of integer registers; the low `XLEN` bits count. -/
  x : List (RegNum × BitVec 64) := []
  /-- Values of floating-point registers; the low `FLEN` bits count. -/
  f : List (RegNum × BitVec 128) := []
  /-- The value of `fcsr`, if one is given. -/
  fcsr : Option (BitVec 8) := none
deriving DecidableEq, Repr

/-- DESIGN CHOICE (log 3), unsafe: what an `x1` .. `x31` that is given no value holds after reset. The spec leaves it
unspecified and says that a model must not pick zero (R45, R46); this value is not zero, is a multiple of 16 and fits 32
bits. -/
def resetX : BitVec 64 := 0x5A5A5A50

/-- DESIGN CHOICE (log 3), unsafe: what an `f` register that is given no value holds after reset, in its low `FLEN` bits. -/
def resetF : BitVec 128 := 0x5A5A5A505A5A5A505A5A5A505A5A5A50

/-- DESIGN CHOICE (log 3), unsafe: what `fcsr` holds after reset if it is given no value: `frm` 1, `fflags` 0b01010. -/
def resetFcsr : BitVec 8 := 0b00101010

/-- A register file that holds the given values, in their low `width` bits, and elsewhere `rest`. -/
def bootRegisters {w : Nat} (width : Nat) (rest : BitVec w) (given : List (RegNum × BitVec w)) : Vector (BitVec w) 32 :=
  given.foldr (fun p file => file.set p.1.toNat ((p.2.setWidth width).setWidth w) p.1.isLt)
    (Vector.replicate 32 ((rest.setWidth width).setWidth w))

/-- The state before the first step (R46, spec/70_reset_and_hazards.md R470, R471) for the parameters, the memory image and
the initial values of a run. -/
def State.boot (cfg : Config) (image : List Host.Cell) (init : InitialValues) : State where
  cfg := cfg
  x := (bootRegisters cfg.xlen.bits resetX init.x).set 0 0
  pc := cfg.resetPc
  f := bootRegisters cfg.flen resetF init.f
  frm := (init.fcsr.getD resetFcsr).extractLsb' 5 3
  fflags := (init.fcsr.getD resetFcsr).extractLsb' 0 5
  lr := none
  mem := image
  dirty := []
  draws := 0

/-- DESIGN CHOICE (log 2), unsafe: the parameters that `State.reset` takes; the spec leaves each of them OPEN (R8). Every
statement of the model is about every `Config`. -/
def resetConfig : Config where
  xlen := .rv64
  extM := true
  extA := true
  extF := true
  extD := true
  extQ := true
  extSys := true
  resetPc := 0x1000
  regions := [⟨0, 2 ^ 64, true, true, true, true⟩]
  fminmax2008 := false
  unwritten := .anyValue

/-- The machine right after reset: no memory image is loaded and no register is given a value (log 5). -/
def State.reset : State := .boot resetConfig [] {}

end Sys2Proof.Machine
end

