-- ==== Sys2Proof/Machine/Flags.lean ====
section
/-! DEFINITION. The accrued floating-point exception flags (spec/10_state.md R37, spec/45_rv32f_rv64f.md R293). There are no
integer flags (R38). -/

namespace Sys2Proof.Machine

/-- A set of flags, laid out as `fflags` (R37). -/
abbrev FlagSet := BitVec 5

/-- No flag. -/
def FlagSet.none : FlagSet := 0b00000

/-- Invalid operation, bit 4. -/
def FlagSet.nv : FlagSet := 0b10000

/-- Division by zero, bit 3. -/
def FlagSet.dz : FlagSet := 0b01000

/-- Overflow, bit 2. -/
def FlagSet.of : FlagSet := 0b00100

/-- Underflow, bit 1. -/
def FlagSet.uf : FlagSet := 0b00010

/-- Inexact, bit 0. -/
def FlagSet.nx : FlagSet := 0b00001

/-- The flags if the condition holds. -/
def FlagSet.when (c : Bool) (fl : FlagSet) : FlagSet := if c then fl else .none

/-- `fflags <- fflags | flags` (R293): flags are never cleared by this. -/
def State.accrue (s : State) (flags : FlagSet) : State := { s with fflags := s.fflags ||| flags }

/-- `fcsr`, the view `frm ++ fflags` of the same 8 bits (R37). -/
def State.fcsr (s : State) : BitVec 8 := s.frm ++ s.fflags

end Sys2Proof.Machine
end

