-- ==== Sys2Proof/Machine/FloatFormat.lean ====
section
/-! DEFINITION. The three IEEE 754 binary interchange formats and what their bit patterns stand for
(spec/45_rv32f_rv64f.md R290, R303). -/

namespace Sys2Proof.Machine

/-- A floating-point format, named by the suffix of its instructions (R290). -/
inductive Fmt where
  /-- binary32, `.s`. -/
  | s
  /-- binary64, `.d`. -/
  | d
  /-- binary128, `.q`. -/
  | q
deriving DecidableEq, Repr

/-- The width of the format (R290). -/
def Fmt.width : Fmt → Nat
  | .s => 32
  | .d => 64
  | .q => 128

/-- The number of fraction bits (R290). -/
def Fmt.fracBits : Fmt → Nat
  | .s => 23
  | .d => 52
  | .q => 112

/-- The number of exponent bits (R290). -/
def Fmt.expBits : Fmt → Nat
  | .s => 8
  | .d => 11
  | .q => 15

/-- The exponent bias (R290). -/
def Fmt.bias : Fmt → Nat
  | .s => 127
  | .d => 1023
  | .q => 16383

/-- The exponent of the least normal number, `1 - bias` (R290). -/
def Fmt.emin (fmt : Fmt) : Int := 1 - fmt.bias

/-- The exponent of the unit in the last place of a subnormal number (R290). -/
def Fmt.quantumMin (fmt : Fmt) : Int := fmt.emin - fmt.fracBits

/-- The exponent field of infinities and NaNs: all ones (R290). -/
def Fmt.expMax (fmt : Fmt) : Nat := 2 ^ fmt.expBits - 1

/-- The magnitude bits of infinity: the pattern without its sign bit (R290). -/
def Fmt.infMagnitude (fmt : Fmt) : Nat := fmt.expMax * 2 ^ fmt.fracBits

/-- A bit pattern of the format. -/
abbrev Fmt.Bits (fmt : Fmt) : Type := BitVec fmt.width

/-- The pattern with a sign and magnitude bits (R290). -/
def Fmt.ofMagnitude (fmt : Fmt) (neg : Bool) (mag : Nat) : fmt.Bits :=
  BitVec.ofNat fmt.width ((if neg then 2 ^ (fmt.width - 1) else 0) + mag)

/-- The canonical NaN: quiet, positive, other fraction bits zero (R290, R295). -/
def Fmt.canonicalNaN (fmt : Fmt) : fmt.Bits := fmt.ofMagnitude false (fmt.infMagnitude + 2 ^ (fmt.fracBits - 1))

/-- An infinity (R290). -/
def Fmt.infinity (fmt : Fmt) (neg : Bool) : fmt.Bits := fmt.ofMagnitude neg fmt.infMagnitude

/-- A zero (R290). -/
def Fmt.zero (fmt : Fmt) (neg : Bool) : fmt.Bits := fmt.ofMagnitude neg 0

/-- The largest finite number of a sign (R296). -/
def Fmt.maxFinite (fmt : Fmt) (neg : Bool) : fmt.Bits := fmt.ofMagnitude neg (fmt.infMagnitude - 1)

/-- The sign bit (R290). -/
def Fmt.sign (fmt : Fmt) (b : fmt.Bits) : Bool := b.toNat.testBit (fmt.width - 1)

/-- The exponent field (R290). -/
def Fmt.expField (fmt : Fmt) (b : fmt.Bits) : Nat := b.toNat / 2 ^ fmt.fracBits % 2 ^ fmt.expBits

/-- The fraction field (R290). -/
def Fmt.fracField (fmt : Fmt) (b : fmt.Bits) : Nat := b.toNat % 2 ^ fmt.fracBits

/-- What a bit pattern stands for (R290): a NaN, an infinity, or the number `(-1)^neg * m * 2^e`. -/
inductive Datum where
  /-- A NaN, quiet or signaling. -/
  | nan (signaling : Bool)
  /-- An infinity. -/
  | inf (neg : Bool)
  /-- The number `(-1)^neg * m * 2^e`; `m` is zero for the two zeros. -/
  | num (neg : Bool) (m : Nat) (e : Int)
deriving DecidableEq, Repr

/-- The datum of a pattern (R290): exponent field all ones, all zeros, or between. -/
def Fmt.datum (fmt : Fmt) (b : fmt.Bits) : Datum :=
  let frac := fmt.fracField b
  let ex := fmt.expField b
  if ex = fmt.expMax then
    if frac = 0 then .inf (fmt.sign b) else .nan (frac < 2 ^ (fmt.fracBits - 1))
  else if ex = 0 then .num (fmt.sign b) frac fmt.quantumMin
  else .num (fmt.sign b) (2 ^ fmt.fracBits + frac) (fmt.quantumMin + (ex - 1 : Nat))

/-- The datum is a signaling NaN. -/
def Datum.isSignaling : Datum → Bool
  | .nan signaling => signaling
  | _ => false

/-- The datum is a NaN. -/
def Datum.isNaN : Datum → Bool
  | .nan _ => true
  | _ => false

/-- The pattern is one of the two zeros. -/
def Fmt.isZero (fmt : Fmt) (b : fmt.Bits) : Bool := fmt.expField b = 0 && fmt.fracField b = 0

/-- The ten classes of `fclass`, exactly one bit set (R303). -/
def Fmt.classify (fmt : Fmt) (b : fmt.Bits) : BitVec 10 :=
  let neg := fmt.sign b
  if fmt.expField b = fmt.expMax then
    if fmt.fracField b = 0 then (if neg then 0x001 else 0x080)
    else if fmt.fracField b < 2 ^ (fmt.fracBits - 1) then 0x100 else 0x200
  else if fmt.expField b = 0 then
    if fmt.fracField b = 0 then (if neg then 0x008 else 0x010) else (if neg then 0x004 else 0x020)
  else (if neg then 0x002 else 0x040)

end Sys2Proof.Machine
end

