-- ==== Sys2Proof/Machine/FloatRound.lean ====
section
/-! DEFINITION. Rounding an exact result once to a format or to an integer, with its flags
(spec/45_rv32f_rv64f.md R293, R294, R296). -/

namespace Sys2Proof.Machine

/-- The rounding modes (R294). -/
inductive RoundMode where
  /-- To nearest, ties to even. -/
  | rne
  /-- Toward zero. -/
  | rtz
  /-- Down, toward minus infinity. -/
  | rdn
  /-- Up, toward plus infinity. -/
  | rup
  /-- To nearest, ties to maximum magnitude. -/
  | rmm
deriving DecidableEq, Repr

/-- The mode of a 3-bit code, `none` for the codes 101, 110 and 111 that name no mode (R294). -/
def RoundMode.ofCode (c : BitVec 3) : Option RoundMode :=
  match c with
  | 0b000#3 => some .rne
  | 0b001#3 => some .rtz
  | 0b010#3 => some .rdn
  | 0b011#3 => some .rup
  | 0b100#3 => some .rmm
  | _ => none

/-- A result and its flags (R291). -/
structure FloatResult (fmt : Fmt) where
  /-- The bits delivered. -/
  bits : fmt.Bits
  /-- The flags raised. -/
  flags : FlagSet
deriving DecidableEq, Repr

/-- A magnitude before rounding: exactly `m * 2^e`, or, with `more`, some real number strictly between `m * 2^e` and
`(m + 1) * 2^e`. -/
structure Unrounded where
  /-- The integer part, in units of `2^e`. -/
  m : Nat
  /-- The exponent of the unit. -/
  e : Int
  /-- There is a nonzero part below the unit. -/
  more : Bool
deriving DecidableEq, Repr

/-- A magnitude rounded to a whole number of units, and whether that changed it. -/
structure Rounded where
  /-- The number of units. -/
  n : Nat
  /-- The rounded magnitude differs from the exact one. -/
  inexact : Bool
deriving DecidableEq, Repr

/-- The magnitude rounds away from zero, from its sign, the parity of the units below it, and how the rest compares with
half a unit (R294). -/
def RoundMode.goesUp (mode : RoundMode) (neg odd inexact tie above : Bool) : Bool :=
  match mode with
  | .rne => above || (tie && odd)
  | .rtz => false
  | .rdn => neg && inexact
  | .rup => !neg && inexact
  | .rmm => above || tie

/-- A magnitude rounded to a multiple of `2^q`, counted in units of `2^q`. With a nonzero rest below its unit a magnitude
is rounded at a higher place only (`u.e < q`), which its callers see to. -/
def roundTo (mode : RoundMode) (neg : Bool) (u : Unrounded) (q : Int) : Rounded :=
  if q ≤ u.e then ⟨u.m * 2 ^ (u.e - q).toNat, u.more⟩
  else
    let d := (q - u.e).toNat
    let low := u.m / 2 ^ d
    let rest := u.m % 2 ^ d
    let half := 2 ^ (d - 1)
    let inexact := rest ≠ 0 || u.more
    let tie := rest = half && !u.more
    let above := rest > half || (rest = half && u.more)
    ⟨low + (mode.goesUp neg (low % 2 = 1) inexact tie above).toNat, inexact⟩

/-- What overflow delivers: infinity, or the largest finite number where the mode rounds toward zero for this sign (R296). -/
def Fmt.overflowBits (fmt : Fmt) (mode : RoundMode) (neg : Bool) : fmt.Bits :=
  match mode with
  | .rne | .rmm => fmt.infinity neg
  | .rtz => fmt.maxFinite neg
  | .rdn => if neg then fmt.infinity neg else fmt.maxFinite neg
  | .rup => if neg then fmt.maxFinite neg else fmt.infinity neg

/-- A nonzero magnitude rounded once to the format (R296). The unit in the last place is that of a number of the format's
precision, but no smaller than that of a subnormal. Overflow: the rounded magnitude exceeds the largest finite number.
Underflow: the result is inexact, and rounded as if the exponent range were unbounded it is below the least normal number
(R293). -/
def Fmt.round (fmt : Fmt) (mode : RoundMode) (neg : Bool) (u : Unrounded) : FloatResult fmt :=
  let top := u.e + (Nat.log2 u.m : Int)
  let free := top - (fmt.fracBits : Int)
  let q := max free fmt.quantumMin
  let r := roundTo mode neg u q
  let mag := (q - fmt.quantumMin).toNat * 2 ^ fmt.fracBits + r.n
  if fmt.infMagnitude ≤ mag then ⟨fmt.overflowBits mode neg, .of ||| .nx⟩
  else
    let reachesMin := top = fmt.emin - 1 && (roundTo mode neg u free).n = 2 ^ (fmt.fracBits + 1)
    let tiny := top < fmt.emin && !reachesMin
    ⟨fmt.ofMagnitude neg mag, .when r.inexact .nx ||| .when (tiny && r.inexact) .uf⟩

/-- An exact number `(-1)^neg * m * 2^e` rounded once to the format; zero keeps its sign (R296). -/
def Fmt.roundExact (fmt : Fmt) (mode : RoundMode) (neg : Bool) (m : Nat) (e : Int) : FloatResult fmt :=
  if m = 0 then ⟨fmt.zero neg, .none⟩ else fmt.round mode neg ⟨m, e, false⟩

end Sys2Proof.Machine
end

