-- ==== Sys2Proof/Machine/FloatOps.lean ====
section
/-! DEFINITION. The floating-point operations on bit patterns, the record `FP` of spec/45_rv32f_rv64f.md R291 implemented
from its laws R293 to R304. -/

namespace Sys2Proof.Machine

/-- The canonical NaN with the flags given (R295). -/
def Fmt.nanResult (fmt : Fmt) (flags : FlagSet) : FloatResult fmt := ⟨fmt.canonicalNaN, flags⟩

/-- The canonical NaN of an operation with a NaN operand: NV if one is signaling (R295, R296). -/
def Fmt.nanOperands (fmt : Fmt) (signaling : Bool) : FloatResult fmt := fmt.nanResult (.when signaling .nv)

/-- The canonical NaN of an invalid operation (R293). -/
def Fmt.invalid (fmt : Fmt) : FloatResult fmt := fmt.nanResult .nv

/-- The integer `(-1)^neg * m * 2^(e - base)`, for `base ≤ e`. -/
def scaled (neg : Bool) (m : Nat) (e base : Int) : Int :=
  let v : Int := ((m * 2 ^ (e - base).toNat : Nat) : Int)
  if neg then -v else v

/-- The exact sum of two numbers, rounded once; the sign of an exact zero sum (R296). -/
def Fmt.sumNumbers (fmt : Fmt) (mode : RoundMode) (na : Bool) (ma : Nat) (ea : Int) (nb : Bool) (mb : Nat) (eb : Int) :
    FloatResult fmt :=
  let base := min ea eb
  let sum := scaled na ma ea base + scaled nb mb eb base
  if sum = 0 then ⟨fmt.zero (if na = nb then na else mode = .rdn), .none⟩
  else fmt.roundExact mode (sum < 0) sum.natAbs base

/-- The sum of two data (R296). -/
def Fmt.sumData (fmt : Fmt) (mode : RoundMode) (a b : Datum) : FloatResult fmt :=
  match a, b with
  | .nan sa, b => fmt.nanOperands (sa || b.isSignaling)
  | .inf _, .nan sb => fmt.nanOperands sb
  | .num _ _ _, .nan sb => fmt.nanOperands sb
  | .inf na, .inf nb => if na = nb then ⟨fmt.infinity na, .none⟩ else fmt.invalid
  | .inf na, .num _ _ _ => ⟨fmt.infinity na, .none⟩
  | .num _ _ _, .inf nb => ⟨fmt.infinity nb, .none⟩
  | .num na ma ea, .num nb mb eb => fmt.sumNumbers mode na ma ea nb mb eb

/-- A datum with its sign inverted; a NaN stays what it is (spec/00_scope.md R12, unary `-`). -/
def Datum.negate : Datum → Datum
  | .nan signaling => .nan signaling
  | .inf neg => .inf (!neg)
  | .num neg m e => .num (!neg) m e

/-- `fadd` (R296, R316). -/
def Fmt.add (fmt : Fmt) (mode : RoundMode) (a b : fmt.Bits) : FloatResult fmt :=
  fmt.sumData mode (fmt.datum a) (fmt.datum b)

/-- `fsub` (R296, R317). -/
def Fmt.sub (fmt : Fmt) (mode : RoundMode) (a b : fmt.Bits) : FloatResult fmt :=
  fmt.sumData mode (fmt.datum a) (fmt.datum b).negate

/-- `fmul` (R296, R318). -/
def Fmt.mul (fmt : Fmt) (mode : RoundMode) (a b : fmt.Bits) : FloatResult fmt :=
  match fmt.datum a, fmt.datum b with
  | .nan sa, b => fmt.nanOperands (sa || b.isSignaling)
  | .inf _, .nan sb => fmt.nanOperands sb
  | .num _ _ _, .nan sb => fmt.nanOperands sb
  | .inf na, .inf nb => ⟨fmt.infinity (na != nb), .none⟩
  | .inf na, .num nb mb _ => if mb = 0 then fmt.invalid else ⟨fmt.infinity (na != nb), .none⟩
  | .num na ma _, .inf nb => if ma = 0 then fmt.invalid else ⟨fmt.infinity (na != nb), .none⟩
  | .num na ma ea, .num nb mb eb => fmt.roundExact mode (na != nb) (ma * mb) (ea + eb)

/-- The quotient of two nonzero numbers, to enough places that rounding it is rounding the exact quotient (R296). -/
def Fmt.quotient (fmt : Fmt) (ma : Nat) (ea : Int) (mb : Nat) (eb : Int) : Unrounded :=
  let shift := 2 * fmt.fracBits + 4
  let num := ma * 2 ^ shift
  ⟨num / mb, ea - eb - (shift : Int), num % mb ≠ 0⟩

/-- `fdiv` (R296, R319). -/
def Fmt.div (fmt : Fmt) (mode : RoundMode) (a b : fmt.Bits) : FloatResult fmt :=
  match fmt.datum a, fmt.datum b with
  | .nan sa, b => fmt.nanOperands (sa || b.isSignaling)
  | .inf _, .nan sb => fmt.nanOperands sb
  | .num _ _ _, .nan sb => fmt.nanOperands sb
  | .inf _, .inf _ => fmt.invalid
  | .inf na, .num nb _ _ => ⟨fmt.infinity (na != nb), .none⟩
  | .num na _ _, .inf nb => ⟨fmt.zero (na != nb), .none⟩
  | .num na ma ea, .num nb mb eb =>
    if mb = 0 then (if ma = 0 then fmt.invalid else ⟨fmt.infinity (na != nb), .dz⟩)
    else if ma = 0 then ⟨fmt.zero (na != nb), .none⟩
    else fmt.round mode (na != nb) (fmt.quotient ma ea mb eb)

/-- The largest `r` with `r * r ≤ m`, looked for bit by bit from bit `i - 1` down, `r` being what is found so far. -/
def sqrtBits (m : Nat) : (i : Nat) → (r : Nat) → Nat
  | 0, r => r
  | i + 1, r => sqrtBits m i (if (r + 2 ^ i) * (r + 2 ^ i) ≤ m then r + 2 ^ i else r)

/-- The integer square root, rounded down. -/
def natSqrt (m : Nat) : Nat := sqrtBits m (Nat.log2 m / 2 + 1) 0

/-- The square root of a positive number, to enough places that rounding it is rounding the exact root (R300). -/
def Fmt.root (fmt : Fmt) (m : Nat) (e : Int) : Unrounded :=
  let shift := 2 * fmt.fracBits + 4 + (if e % 2 = 0 then 0 else 1)
  let scaledM := m * 2 ^ shift
  let r := natSqrt scaledM
  ⟨r, (e - (shift : Int)) / 2, r * r ≠ scaledM⟩

/-- `fsqrt` (R300). -/
def Fmt.sqrt (fmt : Fmt) (mode : RoundMode) (a : fmt.Bits) : FloatResult fmt :=
  match fmt.datum a with
  | .nan sa => fmt.nanOperands sa
  | .inf na => if na then fmt.invalid else ⟨fmt.infinity false, .none⟩
  | .num na m e =>
    if m = 0 then ⟨fmt.zero na, .none⟩
    else if na then fmt.invalid
    else fmt.round mode false (fmt.root m e)

/-- The sum `p + c` of an exact product `(-1)^np * mp * 2^ep` (or an infinite one) and an addend, rounded once (R297). -/
def Fmt.fmaData (fmt : Fmt) (mode : RoundMode) (a b c : Datum) : FloatResult fmt :=
  match a, b with
  | .nan sa, b => fmt.nanOperands (sa || b.isSignaling || c.isSignaling)
  | .inf _, .nan sb => fmt.nanOperands (sb || c.isSignaling)
  | .num _ _ _, .nan sb => fmt.nanOperands (sb || c.isSignaling)
  | .inf na, .inf nb => fmt.sumData mode (.inf (na != nb)) c
  | .inf na, .num nb mb _ => if mb = 0 then fmt.invalid else fmt.sumData mode (.inf (na != nb)) c
  | .num na ma _, .inf nb => if ma = 0 then fmt.invalid else fmt.sumData mode (.inf (na != nb)) c
  | .num na ma ea, .num nb mb eb => fmt.sumData mode (.num (na != nb) (ma * mb) (ea + eb)) c

/-- `(a * b) + c`, rounded once (R297). -/
def Fmt.fmadd (fmt : Fmt) (mode : RoundMode) (a b c : fmt.Bits) : FloatResult fmt :=
  fmt.fmaData mode (fmt.datum a) (fmt.datum b) (fmt.datum c)

/-- `(a * b) - c`, rounded once (R297). -/
def Fmt.fmsub (fmt : Fmt) (mode : RoundMode) (a b c : fmt.Bits) : FloatResult fmt :=
  fmt.fmaData mode (fmt.datum a) (fmt.datum b) (fmt.datum c).negate

/-- `-(a * b) - c`, rounded once (R297). -/
def Fmt.fnmadd (fmt : Fmt) (mode : RoundMode) (a b c : fmt.Bits) : FloatResult fmt :=
  fmt.fmaData mode (fmt.datum a) (fmt.datum b).negate (fmt.datum c).negate

/-- `-(a * b) + c`, rounded once (R297). -/
def Fmt.fnmsub (fmt : Fmt) (mode : RoundMode) (a b c : fmt.Bits) : FloatResult fmt :=
  fmt.fmaData mode (fmt.datum a) (fmt.datum b).negate (fmt.datum c)

/-- The pattern with its sign bit replaced (R298). -/
def Fmt.withSign (fmt : Fmt) (neg : Bool) (a : fmt.Bits) : fmt.Bits :=
  fmt.ofMagnitude neg (a.toNat % 2 ^ (fmt.width - 1))

/-- `fsgnj` (R298). -/
def Fmt.copySign (fmt : Fmt) (a b : fmt.Bits) : fmt.Bits := fmt.withSign (fmt.sign b) a

/-- `fsgnjn` (R298). -/
def Fmt.copyNegatedSign (fmt : Fmt) (a b : fmt.Bits) : fmt.Bits := fmt.withSign (!fmt.sign b) a

/-- `fsgnjx` (R298). -/
def Fmt.xorSign (fmt : Fmt) (a b : fmt.Bits) : fmt.Bits := fmt.withSign (fmt.sign a != fmt.sign b) a

/-- The first datum is less than the second by value; false if one is a NaN (R301). -/
def Datum.lt : Datum → Datum → Bool
  | .nan _, _ => false
  | .inf _, .nan _ => false
  | .num _ _ _, .nan _ => false
  | .inf na, .inf nb => na && !nb
  | .inf na, .num _ _ _ => na
  | .num _ _ _, .inf nb => !nb
  | .num na ma ea, .num nb mb eb => scaled na ma ea (min ea eb) < scaled nb mb eb (min ea eb)

/-- The two data have the same value; false if one is a NaN, true of the two zeros (R301). -/
def Datum.eq : Datum → Datum → Bool
  | .nan _, _ => false
  | .inf _, .nan _ => false
  | .num _ _ _, .nan _ => false
  | .inf na, .inf nb => na = nb
  | .inf _, .num _ _ _ => false
  | .num _ _ _, .inf _ => false
  | .num na ma ea, .num nb mb eb => scaled na ma ea (min ea eb) = scaled nb mb eb (min ea eb)

/-- A comparison: whether the relation holds, and its flags. -/
structure CompareResult where
  /-- The relation holds. -/
  holds : Bool
  /-- The flags raised. -/
  flags : FlagSet
deriving DecidableEq, Repr

/-- NV of a signaling comparison: either operand is any NaN (R301). -/
def Datum.anyNaN (a b : Datum) : FlagSet := .when (a.isNaN || b.isNaN) .nv

/-- `feq`, a quiet comparison: NV only for a signaling NaN (R301). -/
def Fmt.eq (fmt : Fmt) (a b : fmt.Bits) : CompareResult :=
  ⟨(fmt.datum a).eq (fmt.datum b), .when ((fmt.datum a).isSignaling || (fmt.datum b).isSignaling) .nv⟩

/-- `flt`, a signaling comparison (R301). -/
def Fmt.lt (fmt : Fmt) (a b : fmt.Bits) : CompareResult :=
  ⟨(fmt.datum a).lt (fmt.datum b), (fmt.datum a).anyNaN (fmt.datum b)⟩

/-- `fle`, a signaling comparison (R301). -/
def Fmt.le (fmt : Fmt) (a b : fmt.Bits) : CompareResult :=
  ⟨(fmt.datum a).lt (fmt.datum b) || (fmt.datum a).eq (fmt.datum b), (fmt.datum a).anyNaN (fmt.datum b)⟩

/-- The operands are zeros of opposite sign, the case of `fmin` and `fmax` that `FMINMAX_2008` leaves to a draw (R299). -/
def Fmt.oppositeZeros (fmt : Fmt) (a b : fmt.Bits) : Bool :=
  fmt.isZero a && fmt.isZero b && fmt.sign a != fmt.sign b

/-- The operand a minimum delivers of two that are no NaN: the lesser by value, and `-0` of opposite zeros (R299). -/
def Fmt.lesser (fmt : Fmt) (a b : fmt.Bits) : fmt.Bits :=
  if fmt.oppositeZeros a b then fmt.zero true
  else if (fmt.datum b).lt (fmt.datum a) then b else a

/-- The operand a maximum delivers of two that are no NaN: the greater by value, and `+0` of opposite zeros (R299). -/
def Fmt.greater (fmt : Fmt) (a b : fmt.Bits) : fmt.Bits :=
  if fmt.oppositeZeros a b then fmt.zero false
  else if (fmt.datum a).lt (fmt.datum b) then b else a

/-- The NaN cases of minimum and maximum (R299): two NaNs give the canonical NaN; one NaN gives the number, but for a
signaling one under `FMINMAX_2008`; `pick` is the choice between two numbers. -/
def Fmt.minMax (fmt : Fmt) (y2008 : Bool) (pick : fmt.Bits → fmt.Bits → fmt.Bits) (a b : fmt.Bits) : FloatResult fmt :=
  let sa := (fmt.datum a).isSignaling
  let sb := (fmt.datum b).isSignaling
  let flags := FlagSet.when (sa || sb) .nv
  if (fmt.datum a).isNaN then
    if (fmt.datum b).isNaN then ⟨fmt.canonicalNaN, flags⟩
    else if y2008 && sa then ⟨fmt.canonicalNaN, flags⟩ else ⟨b, flags⟩
  else if (fmt.datum b).isNaN then
    if y2008 && sb then ⟨fmt.canonicalNaN, flags⟩ else ⟨a, flags⟩
  else ⟨pick a b, flags⟩

/-- `fmin` (R299), where no draw is due. -/
def Fmt.minimum (fmt : Fmt) (y2008 : Bool) (a b : fmt.Bits) : FloatResult fmt := fmt.minMax y2008 fmt.lesser a b

/-- `fmax` (R299), where no draw is due. -/
def Fmt.maximum (fmt : Fmt) (y2008 : Bool) (a b : fmt.Bits) : FloatResult fmt := fmt.minMax y2008 fmt.greater a b

/-- The target type of a conversion to an integer (R302). -/
inductive IntType where
  /-- Signed, 32 bits. -/
  | w
  /-- Unsigned, 32 bits. -/
  | wu
  /-- Signed, 64 bits. -/
  | l
  /-- Unsigned, 64 bits. -/
  | lu
deriving DecidableEq, Repr

/-- The least value of the type (R302). -/
def IntType.lo : IntType → Int
  | .w => -2 ^ 31
  | .wu => 0
  | .l => -2 ^ 63
  | .lu => 0

/-- The greatest value of the type (R302). -/
def IntType.hi : IntType → Int
  | .w => 2 ^ 31 - 1
  | .wu => 2 ^ 32 - 1
  | .l => 2 ^ 63 - 1
  | .lu => 2 ^ 64 - 1

/-- The width of the type. -/
def IntType.width : IntType → Nat
  | .w | .wu => 32
  | .l | .lu => 64

/-- An integer and its flags. -/
structure IntResult where
  /-- The value delivered, within the range of the target type. -/
  value : Int
  /-- The flags raised. -/
  flags : FlagSet
deriving DecidableEq, Repr

/-- A number rounded to an integer with a mode, and whether that changed it (R302). -/
def roundToInt (mode : RoundMode) (neg : Bool) (m : Nat) (e : Int) : Int × Bool :=
  let r := roundTo mode neg ⟨m, e, false⟩ 0
  (if neg then -(r.n : Int) else (r.n : Int), r.inexact)

/-- A float converted to an integer: rounded, then held to the range of the type (R302). -/
def Fmt.toInt (fmt : Fmt) (mode : RoundMode) (t : IntType) (a : fmt.Bits) : IntResult :=
  match fmt.datum a with
  | .nan _ => ⟨t.hi, .nv⟩
  | .inf neg => ⟨if neg then t.lo else t.hi, .nv⟩
  | .num neg m e =>
    let r := roundToInt mode neg m e
    if t.hi < r.1 then ⟨t.hi, .nv⟩
    else if r.1 < t.lo then ⟨t.lo, .nv⟩
    else ⟨r.1, .when r.2 .nx⟩

/-- An integer converted to a float, rounded once; the integer 0 gives `+0` (R304). -/
def Fmt.ofInt (fmt : Fmt) (mode : RoundMode) (v : Int) : FloatResult fmt := fmt.roundExact mode (v < 0) v.natAbs 0

/-- A float converted to another format, rounded once; a NaN gives the canonical NaN of the destination (R295, R304). -/
def Fmt.convert (src dst : Fmt) (mode : RoundMode) (a : src.Bits) : FloatResult dst :=
  match src.datum a with
  | .nan sa => dst.nanOperands sa
  | .inf neg => ⟨dst.infinity neg, .none⟩
  | .num neg m e => dst.roundExact mode neg m e

end Sys2Proof.Machine
end

