-- ==== Sys2Proof/Syntax.lean ====
section
/-! DEFINITION. The instructions: one constructor per row of the opcode table (spec/30_encoding.md R130), with the
operand fields of its format. Register fields hold numbers 0 to 31 (R91); immediates keep the width of their encoding, the
branch and jump offsets with the bit 0 that the encoding leaves out (R102, R104). -/

namespace Sys2Proof

/-- One instruction of the fifteen tables of spec/00_scope.md R1. -/
inductive Instr where
  /-- `lui`, rule R141. -/
  | lui (rd : RegNum) (imm : BitVec 20)
  /-- `auipc`, rule R142. -/
  | auipc (rd : RegNum) (imm : BitVec 20)
  /-- `jal`, rule R143. -/
  | jal (rd : RegNum) (imm : BitVec 21)
  /-- `jalr`, rule R144. -/
  | jalr (rd rs1 : RegNum) (imm : BitVec 12)
  /-- `beq`, rule R146. -/
  | beq (rs1 rs2 : RegNum) (imm : BitVec 13)
  /-- `bne`, rule R147. -/
  | bne (rs1 rs2 : RegNum) (imm : BitVec 13)
  /-- `blt`, rule R148. -/
  | blt (rs1 rs2 : RegNum) (imm : BitVec 13)
  /-- `bge`, rule R149. -/
  | bge (rs1 rs2 : RegNum) (imm : BitVec 13)
  /-- `bltu`, rule R150. -/
  | bltu (rs1 rs2 : RegNum) (imm : BitVec 13)
  /-- `bgeu`, rule R151. -/
  | bgeu (rs1 rs2 : RegNum) (imm : BitVec 13)
  /-- `lb`, rule R153. -/
  | lb (rd rs1 : RegNum) (imm : BitVec 12)
  /-- `lh`, rule R154. -/
  | lh (rd rs1 : RegNum) (imm : BitVec 12)
  /-- `lw`, rule R155. -/
  | lw (rd rs1 : RegNum) (imm : BitVec 12)
  /-- `lbu`, rule R156. -/
  | lbu (rd rs1 : RegNum) (imm : BitVec 12)
  /-- `lhu`, rule R157. -/
  | lhu (rd rs1 : RegNum) (imm : BitVec 12)
  /-- `lwu`, rule R158. -/
  | lwu (rd rs1 : RegNum) (imm : BitVec 12)
  /-- `sb`, rule R159. -/
  | sb (rs1 rs2 : RegNum) (imm : BitVec 12)
  /-- `sh`, rule R160. -/
  | sh (rs1 rs2 : RegNum) (imm : BitVec 12)
  /-- `sw`, rule R161. -/
  | sw (rs1 rs2 : RegNum) (imm : BitVec 12)
  /-- `addi`, rule R162. -/
  | addi (rd rs1 : RegNum) (imm : BitVec 12)
  /-- `slti`, rule R163. -/
  | slti (rd rs1 : RegNum) (imm : BitVec 12)
  /-- `sltiu`, rule R164. -/
  | sltiu (rd rs1 : RegNum) (imm : BitVec 12)
  /-- `xori`, rule R165. -/
  | xori (rd rs1 : RegNum) (imm : BitVec 12)
  /-- `ori`, rule R166. -/
  | ori (rd rs1 : RegNum) (imm : BitVec 12)
  /-- `andi`, rule R167. -/
  | andi (rd rs1 : RegNum) (imm : BitVec 12)
  /-- `slli`, rule R168. -/
  | slli (rd rs1 : RegNum) (shamt : BitVec 6)
  /-- `srli`, rule R169. -/
  | srli (rd rs1 : RegNum) (shamt : BitVec 6)
  /-- `srai`, rule R170. -/
  | srai (rd rs1 : RegNum) (shamt : BitVec 6)
  /-- `add`, rule R171. -/
  | add (rd rs1 rs2 : RegNum)
  /-- `sub`, rule R172. -/
  | sub (rd rs1 rs2 : RegNum)
  /-- `sll`, rule R173. -/
  | sll (rd rs1 rs2 : RegNum)
  /-- `slt`, rule R174. -/
  | slt (rd rs1 rs2 : RegNum)
  /-- `sltu`, rule R175. -/
  | sltu (rd rs1 rs2 : RegNum)
  /-- `xor`, rule R176. -/
  | xor (rd rs1 rs2 : RegNum)
  /-- `srl`, rule R177. -/
  | srl (rd rs1 rs2 : RegNum)
  /-- `sra`, rule R178. -/
  | sra (rd rs1 rs2 : RegNum)
  /-- `or`, rule R179. -/
  | or (rd rs1 rs2 : RegNum)
  /-- `and`, rule R180. -/
  | and (rd rs1 rs2 : RegNum)
  /-- `fence`, rule R181. -/
  | fence (fm pred succ : BitVec 4) (rs1 rd : RegNum)
  /-- `fence.i`, rule R182. -/
  | fenceI (imm : BitVec 12) (rs1 rd : RegNum)
  /-- `ld`, rule R191. -/
  | ld (rd rs1 : RegNum) (imm : BitVec 12)
  /-- `sd`, rule R192. -/
  | sd (rs1 rs2 : RegNum) (imm : BitVec 12)
  /-- `addiw`, rule R193. -/
  | addiw (rd rs1 : RegNum) (imm : BitVec 12)
  /-- `slliw`, rule R194. -/
  | slliw (rd rs1 : RegNum) (shamt : BitVec 5)
  /-- `srliw`, rule R195. -/
  | srliw (rd rs1 : RegNum) (shamt : BitVec 5)
  /-- `sraiw`, rule R196. -/
  | sraiw (rd rs1 : RegNum) (shamt : BitVec 5)
  /-- `addw`, rule R197. -/
  | addw (rd rs1 rs2 : RegNum)
  /-- `subw`, rule R198. -/
  | subw (rd rs1 rs2 : RegNum)
  /-- `sllw`, rule R199. -/
  | sllw (rd rs1 rs2 : RegNum)
  /-- `srlw`, rule R200. -/
  | srlw (rd rs1 rs2 : RegNum)
  /-- `sraw`, rule R201. -/
  | sraw (rd rs1 rs2 : RegNum)
  /-- `mul`, rule R211. -/
  | mul (rd rs1 rs2 : RegNum)
  /-- `mulh`, rule R212. -/
  | mulh (rd rs1 rs2 : RegNum)
  /-- `mulhsu`, rule R213. -/
  | mulhsu (rd rs1 rs2 : RegNum)
  /-- `mulhu`, rule R214. -/
  | mulhu (rd rs1 rs2 : RegNum)
  /-- `div`, rule R215. -/
  | div (rd rs1 rs2 : RegNum)
  /-- `divu`, rule R216. -/
  | divu (rd rs1 rs2 : RegNum)
  /-- `rem`, rule R217. -/
  | rem (rd rs1 rs2 : RegNum)
  /-- `remu`, rule R218. -/
  | remu (rd rs1 rs2 : RegNum)
  /-- `mulw`, rule R220. -/
  | mulw (rd rs1 rs2 : RegNum)
  /-- `divw`, rule R221. -/
  | divw (rd rs1 rs2 : RegNum)
  /-- `divuw`, rule R222. -/
  | divuw (rd rs1 rs2 : RegNum)
  /-- `remw`, rule R223. -/
  | remw (rd rs1 rs2 : RegNum)
  /-- `remuw`, rule R224. -/
  | remuw (rd rs1 rs2 : RegNum)
  /-- `lr.w`, rule R233. -/
  | lrW (rd rs1 : RegNum) (aq rl : Bool)
  /-- `sc.w`, rule R234. -/
  | scW (rd rs1 rs2 : RegNum) (aq rl : Bool)
  /-- `amoswap.w`, rule R235. -/
  | amoswapW (rd rs1 rs2 : RegNum) (aq rl : Bool)
  /-- `amoadd.w`, rule R236. -/
  | amoaddW (rd rs1 rs2 : RegNum) (aq rl : Bool)
  /-- `amoxor.w`, rule R237. -/
  | amoxorW (rd rs1 rs2 : RegNum) (aq rl : Bool)
  /-- `amoor.w`, rule R238. -/
  | amoorW (rd rs1 rs2 : RegNum) (aq rl : Bool)
  /-- `amoand.w`, rule R239. -/
  | amoandW (rd rs1 rs2 : RegNum) (aq rl : Bool)
  /-- `amomin.w`, rule R240. -/
  | amominW (rd rs1 rs2 : RegNum) (aq rl : Bool)
  /-- `amomax.w`, rule R241. -/
  | amomaxW (rd rs1 rs2 : RegNum) (aq rl : Bool)
  /-- `amominu.w`, rule R242. -/
  | amominuW (rd rs1 rs2 : RegNum) (aq rl : Bool)
  /-- `amomaxu.w`, rule R243. -/
  | amomaxuW (rd rs1 rs2 : RegNum) (aq rl : Bool)
  /-- `lr.d`, rule R244. -/
  | lrD (rd rs1 : RegNum) (aq rl : Bool)
  /-- `sc.d`, rule R245. -/
  | scD (rd rs1 rs2 : RegNum) (aq rl : Bool)
  /-- `amoswap.d`, rule R246. -/
  | amoswapD (rd rs1 rs2 : RegNum) (aq rl : Bool)
  /-- `amoadd.d`, rule R247. -/
  | amoaddD (rd rs1 rs2 : RegNum) (aq rl : Bool)
  /-- `amoxor.d`, rule R248. -/
  | amoxorD (rd rs1 rs2 : RegNum) (aq rl : Bool)
  /-- `amoor.d`, rule R249. -/
  | amoorD (rd rs1 rs2 : RegNum) (aq rl : Bool)
  /-- `amoand.d`, rule R250. -/
  | amoandD (rd rs1 rs2 : RegNum) (aq rl : Bool)
  /-- `amomin.d`, rule R251. -/
  | amominD (rd rs1 rs2 : RegNum) (aq rl : Bool)
  /-- `amomax.d`, rule R252. -/
  | amomaxD (rd rs1 rs2 : RegNum) (aq rl : Bool)
  /-- `amominu.d`, rule R253. -/
  | amominuD (rd rs1 rs2 : RegNum) (aq rl : Bool)
  /-- `amomaxu.d`, rule R254. -/
  | amomaxuD (rd rs1 rs2 : RegNum) (aq rl : Bool)
  /-- `ecall`, rule R261. -/
  | ecall
  /-- `ebreak`, rule R262. -/
  | ebreak
  /-- `uret`, rule R263. -/
  | uret
  /-- `sret`, rule R264. -/
  | sret
  /-- `hret`, rule R265. -/
  | hret
  /-- `mret`, rule R266. -/
  | mret
  /-- `dret`, rule R267. -/
  | dret
  /-- `sfence.vm`, rule R268. -/
  | sfenceVm (rs1 : RegNum)
  /-- `wfi`, rule R269. -/
  | wfi
  /-- `rdcycle`, rule R270. -/
  | rdcycle (rd : RegNum)
  /-- `rdtime`, rule R271. -/
  | rdtime (rd : RegNum)
  /-- `rdinstret`, rule R272. -/
  | rdinstret (rd : RegNum)
  /-- `rdcycleh`, rule R273. -/
  | rdcycleh (rd : RegNum)
  /-- `rdtimeh`, rule R274. -/
  | rdtimeh (rd : RegNum)
  /-- `rdinstreth`, rule R275. -/
  | rdinstreth (rd : RegNum)
  /-- `csrrw`, rule R277. -/
  | csrrw (rd : RegNum) (csr : BitVec 12) (rs1 : RegNum)
  /-- `csrrs`, rule R278. -/
  | csrrs (rd : RegNum) (csr : BitVec 12) (rs1 : RegNum)
  /-- `csrrc`, rule R279. -/
  | csrrc (rd : RegNum) (csr : BitVec 12) (rs1 : RegNum)
  /-- `csrrwi`, rule R280. -/
  | csrrwi (rd : RegNum) (csr : BitVec 12) (zimm : BitVec 5)
  /-- `csrrsi`, rule R281. -/
  | csrrsi (rd : RegNum) (csr : BitVec 12) (zimm : BitVec 5)
  /-- `csrrci`, rule R282. -/
  | csrrci (rd : RegNum) (csr : BitVec 12) (zimm : BitVec 5)
  /-- `flw`, rule R310. -/
  | flw (rd rs1 : RegNum) (imm : BitVec 12)
  /-- `fsw`, rule R311. -/
  | fsw (rs1 rs2 : RegNum) (imm : BitVec 12)
  /-- `fmadd.s`, rule R312. -/
  | fmaddS (rd rs1 rs2 rs3 : RegNum) (rm : BitVec 3)
  /-- `fmsub.s`, rule R313. -/
  | fmsubS (rd rs1 rs2 rs3 : RegNum) (rm : BitVec 3)
  /-- `fnmadd.s`, rule R314. -/
  | fnmaddS (rd rs1 rs2 rs3 : RegNum) (rm : BitVec 3)
  /-- `fnmsub.s`, rule R315. -/
  | fnmsubS (rd rs1 rs2 rs3 : RegNum) (rm : BitVec 3)
  /-- `fadd.s`, rule R316. -/
  | faddS (rd rs1 rs2 : RegNum) (rm : BitVec 3)
  /-- `fsub.s`, rule R317. -/
  | fsubS (rd rs1 rs2 : RegNum) (rm : BitVec 3)
  /-- `fmul.s`, rule R318. -/
  | fmulS (rd rs1 rs2 : RegNum) (rm : BitVec 3)
  /-- `fdiv.s`, rule R319. -/
  | fdivS (rd rs1 rs2 : RegNum) (rm : BitVec 3)
  /-- `fsgnj.s`, rule R320. -/
  | fsgnjS (rd rs1 rs2 : RegNum)
  /-- `fsgnjn.s`, rule R321. -/
  | fsgnjnS (rd rs1 rs2 : RegNum)
  /-- `fsgnjx.s`, rule R322. -/
  | fsgnjxS (rd rs1 rs2 : RegNum)
  /-- `fmin.s`, rule R323. -/
  | fminS (rd rs1 rs2 : RegNum)
  /-- `fmax.s`, rule R324. -/
  | fmaxS (rd rs1 rs2 : RegNum)
  /-- `fsqrt.s`, rule R325. -/
  | fsqrtS (rd rs1 : RegNum) (rm : BitVec 3)
  /-- `fle.s`, rule R326. -/
  | fleS (rd rs1 rs2 : RegNum)
  /-- `flt.s`, rule R327. -/
  | fltS (rd rs1 rs2 : RegNum)
  /-- `feq.s`, rule R328. -/
  | feqS (rd rs1 rs2 : RegNum)
  /-- `fcvt.w.s`, rule R329. -/
  | fcvtWS (rd rs1 : RegNum) (rm : BitVec 3)
  /-- `fcvt.wu.s`, rule R330. -/
  | fcvtWuS (rd rs1 : RegNum) (rm : BitVec 3)
  /-- `fcvt.s.w`, rule R331. -/
  | fcvtSW (rd rs1 : RegNum) (rm : BitVec 3)
  /-- `fcvt.s.wu`, rule R332. -/
  | fcvtSWu (rd rs1 : RegNum) (rm : BitVec 3)
  /-- `fmv.x.s`, rule R333. -/
  | fmvXS (rd rs1 : RegNum)
  /-- `fclass.s`, rule R334. -/
  | fclassS (rd rs1 : RegNum)
  /-- `fmv.s.x`, rule R335. -/
  | fmvSX (rd rs1 : RegNum)
  /-- `fcvt.l.s`, rule R336. -/
  | fcvtLS (rd rs1 : RegNum) (rm : BitVec 3)
  /-- `fcvt.lu.s`, rule R337. -/
  | fcvtLuS (rd rs1 : RegNum) (rm : BitVec 3)
  /-- `fcvt.s.l`, rule R338. -/
  | fcvtSL (rd rs1 : RegNum) (rm : BitVec 3)
  /-- `fcvt.s.lu`, rule R339. -/
  | fcvtSLu (rd rs1 : RegNum) (rm : BitVec 3)
  /-- `fld`, rule R351. -/
  | fld (rd rs1 : RegNum) (imm : BitVec 12)
  /-- `fsd`, rule R352. -/
  | fsd (rs1 rs2 : RegNum) (imm : BitVec 12)
  /-- `fmadd.d`, rule R353. -/
  | fmaddD (rd rs1 rs2 rs3 : RegNum) (rm : BitVec 3)
  /-- `fmsub.d`, rule R354. -/
  | fmsubD (rd rs1 rs2 rs3 : RegNum) (rm : BitVec 3)
  /-- `fnmadd.d`, rule R355. -/
  | fnmaddD (rd rs1 rs2 rs3 : RegNum) (rm : BitVec 3)
  /-- `fnmsub.d`, rule R356. -/
  | fnmsubD (rd rs1 rs2 rs3 : RegNum) (rm : BitVec 3)
  /-- `fadd.d`, rule R357. -/
  | faddD (rd rs1 rs2 : RegNum) (rm : BitVec 3)
  /-- `fsub.d`, rule R358. -/
  | fsubD (rd rs1 rs2 : RegNum) (rm : BitVec 3)
  /-- `fmul.d`, rule R359. -/
  | fmulD (rd rs1 rs2 : RegNum) (rm : BitVec 3)
  /-- `fdiv.d`, rule R360. -/
  | fdivD (rd rs1 rs2 : RegNum) (rm : BitVec 3)
  /-- `fsgnj.d`, rule R361. -/
  | fsgnjD (rd rs1 rs2 : RegNum)
  /-- `fsgnjn.d`, rule R362. -/
  | fsgnjnD (rd rs1 rs2 : RegNum)
  /-- `fsgnjx.d`, rule R363. -/
  | fsgnjxD (rd rs1 rs2 : RegNum)
  /-- `fmin.d`, rule R364. -/
  | fminD (rd rs1 rs2 : RegNum)
  /-- `fmax.d`, rule R365. -/
  | fmaxD (rd rs1 rs2 : RegNum)
  /-- `fcvt.s.d`, rule R366. -/
  | fcvtSD (rd rs1 : RegNum) (rm : BitVec 3)
  /-- `fcvt.d.s`, rule R367. -/
  | fcvtDS (rd rs1 : RegNum) (rm : BitVec 3)
  /-- `fsqrt.d`, rule R368. -/
  | fsqrtD (rd rs1 : RegNum) (rm : BitVec 3)
  /-- `fle.d`, rule R369. -/
  | fleD (rd rs1 rs2 : RegNum)
  /-- `flt.d`, rule R370. -/
  | fltD (rd rs1 rs2 : RegNum)
  /-- `feq.d`, rule R371. -/
  | feqD (rd rs1 rs2 : RegNum)
  /-- `fcvt.w.d`, rule R372. -/
  | fcvtWD (rd rs1 : RegNum) (rm : BitVec 3)
  /-- `fcvt.wu.d`, rule R373. -/
  | fcvtWuD (rd rs1 : RegNum) (rm : BitVec 3)
  /-- `fcvt.d.w`, rule R374. -/
  | fcvtDW (rd rs1 : RegNum) (rm : BitVec 3)
  /-- `fcvt.d.wu`, rule R375. -/
  | fcvtDWu (rd rs1 : RegNum) (rm : BitVec 3)
  /-- `fclass.d`, rule R376. -/
  | fclassD (rd rs1 : RegNum)
  /-- `fcvt.l.d`, rule R377. -/
  | fcvtLD (rd rs1 : RegNum) (rm : BitVec 3)
  /-- `fcvt.lu.d`, rule R378. -/
  | fcvtLuD (rd rs1 : RegNum) (rm : BitVec 3)
  /-- `fmv.x.d`, rule R379. -/
  | fmvXD (rd rs1 : RegNum)
  /-- `fcvt.d.l`, rule R380. -/
  | fcvtDL (rd rs1 : RegNum) (rm : BitVec 3)
  /-- `fcvt.d.lu`, rule R381. -/
  | fcvtDLu (rd rs1 : RegNum) (rm : BitVec 3)
  /-- `fmv.d.x`, rule R382. -/
  | fmvDX (rd rs1 : RegNum)
  /-- `frcsr`, rule R391. -/
  | frcsr (rd : RegNum)
  /-- `frrm`, rule R392. -/
  | frrm (rd : RegNum)
  /-- `frflags`, rule R393. -/
  | frflags (rd : RegNum)
  /-- `fscsr`, rule R394. -/
  | fscsr (rd rs1 : RegNum)
  /-- `fsrm`, rule R395. -/
  | fsrm (rd rs1 : RegNum)
  /-- `fsflags`, rule R396. -/
  | fsflags (rd rs1 : RegNum)
  /-- `fsrmi`, rule R397. -/
  | fsrmi (rd : RegNum) (zimm : BitVec 5)
  /-- `fsflagsi`, rule R398. -/
  | fsflagsi (rd : RegNum) (zimm : BitVec 5)
  /-- `flq`, rule R401. -/
  | flq (rd rs1 : RegNum) (imm : BitVec 12)
  /-- `fsq`, rule R402. -/
  | fsq (rs1 rs2 : RegNum) (imm : BitVec 12)
  /-- `fmadd.q`, rule R403. -/
  | fmaddQ (rd rs1 rs2 rs3 : RegNum) (rm : BitVec 3)
  /-- `fmsub.q`, rule R404. -/
  | fmsubQ (rd rs1 rs2 rs3 : RegNum) (rm : BitVec 3)
  /-- `fnmadd.q`, rule R405. -/
  | fnmaddQ (rd rs1 rs2 rs3 : RegNum) (rm : BitVec 3)
  /-- `fnmsub.q`, rule R406. -/
  | fnmsubQ (rd rs1 rs2 rs3 : RegNum) (rm : BitVec 3)
  /-- `fadd.q`, rule R407. -/
  | faddQ (rd rs1 rs2 : RegNum) (rm : BitVec 3)
  /-- `fsub.q`, rule R408. -/
  | fsubQ (rd rs1 rs2 : RegNum) (rm : BitVec 3)
  /-- `fmul.q`, rule R409. -/
  | fmulQ (rd rs1 rs2 : RegNum) (rm : BitVec 3)
  /-- `fdiv.q`, rule R410. -/
  | fdivQ (rd rs1 rs2 : RegNum) (rm : BitVec 3)
  /-- `fsgnj.q`, rule R411. -/
  | fsgnjQ (rd rs1 rs2 : RegNum)
  /-- `fsgnjn.q`, rule R412. -/
  | fsgnjnQ (rd rs1 rs2 : RegNum)
  /-- `fsgnjx.q`, rule R413. -/
  | fsgnjxQ (rd rs1 rs2 : RegNum)
  /-- `fmin.q`, rule R414. -/
  | fminQ (rd rs1 rs2 : RegNum)
  /-- `fmax.q`, rule R415. -/
  | fmaxQ (rd rs1 rs2 : RegNum)
  /-- `fcvt.s.q`, rule R416. -/
  | fcvtSQ (rd rs1 : RegNum) (rm : BitVec 3)
  /-- `fcvt.q.s`, rule R417. -/
  | fcvtQS (rd rs1 : RegNum) (rm : BitVec 3)
  /-- `fcvt.d.q`, rule R418. -/
  | fcvtDQ (rd rs1 : RegNum) (rm : BitVec 3)
  /-- `fcvt.q.d`, rule R419. -/
  | fcvtQD (rd rs1 : RegNum) (rm : BitVec 3)
  /-- `fsqrt.q`, rule R420. -/
  | fsqrtQ (rd rs1 : RegNum) (rm : BitVec 3)
  /-- `fle.q`, rule R421. -/
  | fleQ (rd rs1 rs2 : RegNum)
  /-- `flt.q`, rule R422. -/
  | fltQ (rd rs1 rs2 : RegNum)
  /-- `feq.q`, rule R423. -/
  | feqQ (rd rs1 rs2 : RegNum)
  /-- `fcvt.w.q`, rule R424. -/
  | fcvtWQ (rd rs1 : RegNum) (rm : BitVec 3)
  /-- `fcvt.wu.q`, rule R425. -/
  | fcvtWuQ (rd rs1 : RegNum) (rm : BitVec 3)
  /-- `fcvt.q.w`, rule R426. -/
  | fcvtQW (rd rs1 : RegNum) (rm : BitVec 3)
  /-- `fcvt.q.wu`, rule R427. -/
  | fcvtQWu (rd rs1 : RegNum) (rm : BitVec 3)
  /-- `fclass.q`, rule R428. -/
  | fclassQ (rd rs1 : RegNum)
  /-- `fcvt.l.q`, rule R430. -/
  | fcvtLQ (rd rs1 : RegNum) (rm : BitVec 3)
  /-- `fcvt.lu.q`, rule R431. -/
  | fcvtLuQ (rd rs1 : RegNum) (rm : BitVec 3)
  /-- `fcvt.q.l`, rule R432. -/
  | fcvtQL (rd rs1 : RegNum) (rm : BitVec 3)
  /-- `fcvt.q.lu`, rule R433. -/
  | fcvtQLu (rd rs1 : RegNum) (rm : BitVec 3)
  /-- `fmv.x.q`, rule R436. -/
  | fmvXQ (rd rs1 : RegNum)
  /-- `fmv.q.x`, rule R437. -/
  | fmvQX (rd rs1 : RegNum)
deriving DecidableEq, Repr

end Sys2Proof
end

