-- ==== Sys2Proof/WellFormed.lean ====
section
/-! DEFINITION. Which instructions an encoding can hold: the branch and jump offsets are even, and a CSR instruction that
is one of the fourteen rows of spec/30_encoding.md R132 is written as that row. -/

namespace Sys2Proof

/-- A branch or jump offset has bit 0 clear (spec/30_encoding.md R102, R104). -/
def evenOffset {n : Nat} (imm : BitVec n) : Bool := !imm.getLsbD 0

/-- The CSR addresses that `csrrs rd, csr, x0` has a row of its own for (spec/30_encoding.md R132). -/
def csrReadRows : List (BitVec 12) := [0xc00, 0xc01, 0xc02, 0xc80, 0xc81, 0xc82, 0x001, 0x002, 0x003]

/-- The CSR addresses that `csrrw rd, csr, rs1` has a row of its own for (spec/30_encoding.md R132). -/
def csrWriteRows : List (BitVec 12) := [0x001, 0x002, 0x003]

/-- The CSR addresses that `csrrwi rd, csr, zimm` has a row of its own for (spec/30_encoding.md R132). -/
def csrWriteImmRows : List (BitVec 12) := [0x001, 0x002]

/-- The instruction is what its own word decodes to. -/
def Instr.wellFormed : Instr → Bool
  | .jal _ imm => evenOffset imm
  | .beq _ _ imm | .bne _ _ imm | .blt _ _ imm | .bge _ _ imm | .bltu _ _ imm | .bgeu _ _ imm => evenOffset imm
  | .csrrs _ csr rs1 => !(rs1 == 0 && csrReadRows.contains csr)
  | .csrrw _ csr _ => !csrWriteRows.contains csr
  | .csrrwi _ csr _ => !csrWriteImmRows.contains csr
  | _ => true

end Sys2Proof
end

