-- ==== Sys2Proof/Decode.lean ====
section
/-! DEFINITION. The decoder, total on any bytes, and the encoder (spec/30_encoding.md). Which rows are available under the
parameters (spec/00_scope.md R9) is no part of decoding: each meaning checks it. -/

namespace Sys2Proof

/-- Why a word is no instruction (rule R120: each of these raises IllegalInstruction). -/
inductive DecodeError where
  /-- Fewer than four bytes were given; the fetch always gives four, so no run sees this. Safe. -/
  | tooShort
  /-- The two low bits are not 11, or bits [4:2] are 111 (rules R90, R124). Safe: it raises. -/
  | notThirtyTwoBits
  /-- The major opcode is not in rule R110 (rules R120, R123). Safe: it raises. -/
  | noSuchOpcode
  /-- The opcode has no row with these function fields (rule R120). Safe: it raises. -/
  | reservedFunction
deriving DecidableEq, Repr

/-- The fields of an instruction word at the positions of rule R91. -/
structure Fields where
  /-- `inst[31:25]`. -/
  f7 : BitVec 7
  /-- `inst[24:20]`. -/
  rs2 : BitVec 5
  /-- `inst[19:15]`. -/
  rs1 : BitVec 5
  /-- `inst[14:12]`. -/
  f3 : BitVec 3
  /-- `inst[11:7]`. -/
  rd : BitVec 5
  /-- `inst[6:0]`. -/
  op : BitVec 7
deriving DecidableEq, Repr

/-- The word cut into its fields (rule R91). -/
def Fields.split (w : InstrWord) : Fields :=
  ⟨w.extractLsb' 25 7, w.extractLsb' 20 5, w.extractLsb' 15 5, w.extractLsb' 12 3, w.extractLsb' 7 5, w.extractLsb' 0 7⟩

/-- The fields put together again (rule R91). -/
def Fields.join (f : Fields) : InstrWord := f.f7 ++ f.rs2 ++ f.rs1 ++ f.f3 ++ f.rd ++ f.op

/-- The I-immediate field, also the CSR address (rules R100, R106). -/
def Fields.immI (f : Fields) : BitVec 12 := f.f7 ++ f.rs2

/-- The S-immediate field (rule R101). -/
def Fields.immS (f : Fields) : BitVec 12 := f.f7 ++ f.rd

/-- The B-immediate (rule R102). -/
def Fields.immB (f : Fields) : BitVec 13 :=
  f.f7.extractLsb' 6 1 ++ f.rd.extractLsb' 0 1 ++ f.f7.extractLsb' 0 6 ++ f.rd.extractLsb' 1 4 ++ 0#1

/-- The U-immediate field (rule R103). -/
def Fields.immU (f : Fields) : BitVec 20 := f.f7 ++ f.rs2 ++ f.rs1 ++ f.f3

/-- The J-immediate (rule R104). -/
def Fields.immJ (f : Fields) : BitVec 21 :=
  f.f7.extractLsb' 6 1 ++ f.rs1 ++ f.f3 ++ f.rs2.extractLsb' 0 1 ++ f.f7.extractLsb' 0 6 ++ f.rs2.extractLsb' 1 4 ++ 0#1

/-- `inst[31:26]`, fixed in the 64-bit immediate shifts (rule R105). -/
def Fields.f6 (f : Fields) : BitVec 6 := f.f7.extractLsb' 1 6

/-- `inst[25:20]`, the shift amount of `slli`, `srli`, `srai` (rule R105). -/
def Fields.shamt6 (f : Fields) : BitVec 6 := f.f7.extractLsb' 0 1 ++ f.rs2

/-- `inst[31:27]` (rule R99). -/
def Fields.f5 (f : Fields) : BitVec 5 := f.f7.extractLsb' 2 5

/-- `rs3`, the same bits in the R4 format (rule R98). -/
def Fields.rs3 (f : Fields) : BitVec 5 := f.f7.extractLsb' 2 5

/-- `fmt`, `inst[26:25]` (rule R98). -/
def Fields.fmt (f : Fields) : BitVec 2 := f.f7.extractLsb' 0 2

/-- `aq`, `inst[26]` (rule R99). -/
def Fields.aq (f : Fields) : Bool := f.f7.getLsbD 1

/-- `rl`, `inst[25]` (rule R99). -/
def Fields.rl (f : Fields) : Bool := f.f7.getLsbD 0

/-- `fm`, `inst[31:28]` of `fence` (rule R108). -/
def Fields.fm (f : Fields) : BitVec 4 := f.f7.extractLsb' 3 4

/-- `pred`, `inst[27:24]` of `fence` (rule R108). -/
def Fields.pred (f : Fields) : BitVec 4 := f.f7.extractLsb' 0 3 ++ f.rs2.extractLsb' 4 1

/-- `succ`, `inst[23:20]` of `fence` (rule R108). -/
def Fields.succ (f : Fields) : BitVec 4 := f.rs2.extractLsb' 0 4

/-- LOAD, rule R111. -/
def decodeLoad (f : Fields) : Except DecodeError Instr :=
  match f.f3 with
  | 0b000#3 => .ok (.lb f.rd f.rs1 f.immI)
  | 0b001#3 => .ok (.lh f.rd f.rs1 f.immI)
  | 0b010#3 => .ok (.lw f.rd f.rs1 f.immI)
  | 0b100#3 => .ok (.lbu f.rd f.rs1 f.immI)
  | 0b101#3 => .ok (.lhu f.rd f.rs1 f.immI)
  | 0b110#3 => .ok (.lwu f.rd f.rs1 f.immI)
  | 0b011#3 => .ok (.ld f.rd f.rs1 f.immI)
  | _ => .error .reservedFunction

/-- LOAD-FP, rule R111. -/
def decodeLoadFp (f : Fields) : Except DecodeError Instr :=
  match f.f3 with
  | 0b010#3 => .ok (.flw f.rd f.rs1 f.immI)
  | 0b011#3 => .ok (.fld f.rd f.rs1 f.immI)
  | 0b100#3 => .ok (.flq f.rd f.rs1 f.immI)
  | _ => .error .reservedFunction

/-- STORE, rule R112. -/
def decodeStore (f : Fields) : Except DecodeError Instr :=
  match f.f3 with
  | 0b000#3 => .ok (.sb f.rs1 f.rs2 f.immS)
  | 0b001#3 => .ok (.sh f.rs1 f.rs2 f.immS)
  | 0b010#3 => .ok (.sw f.rs1 f.rs2 f.immS)
  | 0b011#3 => .ok (.sd f.rs1 f.rs2 f.immS)
  | _ => .error .reservedFunction

/-- STORE-FP, rule R112. -/
def decodeStoreFp (f : Fields) : Except DecodeError Instr :=
  match f.f3 with
  | 0b010#3 => .ok (.fsw f.rs1 f.rs2 f.immS)
  | 0b011#3 => .ok (.fsd f.rs1 f.rs2 f.immS)
  | 0b100#3 => .ok (.fsq f.rs1 f.rs2 f.immS)
  | _ => .error .reservedFunction

/-- BRANCH, rule R117. -/
def decodeBranch (f : Fields) : Except DecodeError Instr :=
  match f.f3 with
  | 0b000#3 => .ok (.beq f.rs1 f.rs2 f.immB)
  | 0b001#3 => .ok (.bne f.rs1 f.rs2 f.immB)
  | 0b100#3 => .ok (.blt f.rs1 f.rs2 f.immB)
  | 0b101#3 => .ok (.bge f.rs1 f.rs2 f.immB)
  | 0b110#3 => .ok (.bltu f.rs1 f.rs2 f.immB)
  | 0b111#3 => .ok (.bgeu f.rs1 f.rs2 f.immB)
  | _ => .error .reservedFunction

/-- JALR, rule R117. -/
def decodeJalr (f : Fields) : Except DecodeError Instr :=
  match f.f3 with
  | 0b000#3 => .ok (.jalr f.rd f.rs1 f.immI)
  | _ => .error .reservedFunction

/-- MISC-MEM, rule R118. -/
def decodeMiscMem (f : Fields) : Except DecodeError Instr :=
  match f.f3 with
  | 0b000#3 => .ok (.fence f.fm f.pred f.succ f.rs1 f.rd)
  | 0b001#3 => .ok (.fenceI f.immI f.rs1 f.rd)
  | _ => .error .reservedFunction

/-- OP-IMM, rules R113 and R105. -/
def decodeOpImm (f : Fields) : Except DecodeError Instr :=
  match f.f3 with
  | 0b000#3 => .ok (.addi f.rd f.rs1 f.immI)
  | 0b010#3 => .ok (.slti f.rd f.rs1 f.immI)
  | 0b011#3 => .ok (.sltiu f.rd f.rs1 f.immI)
  | 0b100#3 => .ok (.xori f.rd f.rs1 f.immI)
  | 0b110#3 => .ok (.ori f.rd f.rs1 f.immI)
  | 0b111#3 => .ok (.andi f.rd f.rs1 f.immI)
  | 0b001#3 =>
    match f.f6 with
    | 0b000000#6 => .ok (.slli f.rd f.rs1 f.shamt6)
    | _ => .error .reservedFunction
  | 0b101#3 =>
    match f.f6 with
    | 0b000000#6 => .ok (.srli f.rd f.rs1 f.shamt6)
    | 0b010000#6 => .ok (.srai f.rd f.rs1 f.shamt6)
    | _ => .error .reservedFunction

/-- OP-IMM-32, rules R113 and R105. -/
def decodeOpImm32 (f : Fields) : Except DecodeError Instr :=
  match f.f3 with
  | 0b000#3 => .ok (.addiw f.rd f.rs1 f.immI)
  | 0b001#3 =>
    match f.f7 with
    | 0b0000000#7 => .ok (.slliw f.rd f.rs1 f.rs2)
    | _ => .error .reservedFunction
  | 0b101#3 =>
    match f.f7 with
    | 0b0000000#7 => .ok (.srliw f.rd f.rs1 f.rs2)
    | 0b0100000#7 => .ok (.sraiw f.rd f.rs1 f.rs2)
    | _ => .error .reservedFunction
  | _ => .error .reservedFunction

/-- OP, rule R114. -/
def decodeOp (f : Fields) : Except DecodeError Instr :=
  match f.f7, f.f3 with
  | 0b0000000#7, 0b000#3 => .ok (.add f.rd f.rs1 f.rs2)
  | 0b0100000#7, 0b000#3 => .ok (.sub f.rd f.rs1 f.rs2)
  | 0b0000000#7, 0b001#3 => .ok (.sll f.rd f.rs1 f.rs2)
  | 0b0000000#7, 0b010#3 => .ok (.slt f.rd f.rs1 f.rs2)
  | 0b0000000#7, 0b011#3 => .ok (.sltu f.rd f.rs1 f.rs2)
  | 0b0000000#7, 0b100#3 => .ok (.xor f.rd f.rs1 f.rs2)
  | 0b0000000#7, 0b101#3 => .ok (.srl f.rd f.rs1 f.rs2)
  | 0b0100000#7, 0b101#3 => .ok (.sra f.rd f.rs1 f.rs2)
  | 0b0000000#7, 0b110#3 => .ok (.or f.rd f.rs1 f.rs2)
  | 0b0000000#7, 0b111#3 => .ok (.and f.rd f.rs1 f.rs2)
  | 0b0000001#7, 0b000#3 => .ok (.mul f.rd f.rs1 f.rs2)
  | 0b0000001#7, 0b001#3 => .ok (.mulh f.rd f.rs1 f.rs2)
  | 0b0000001#7, 0b010#3 => .ok (.mulhsu f.rd f.rs1 f.rs2)
  | 0b0000001#7, 0b011#3 => .ok (.mulhu f.rd f.rs1 f.rs2)
  | 0b0000001#7, 0b100#3 => .ok (.div f.rd f.rs1 f.rs2)
  | 0b0000001#7, 0b101#3 => .ok (.divu f.rd f.rs1 f.rs2)
  | 0b0000001#7, 0b110#3 => .ok (.rem f.rd f.rs1 f.rs2)
  | 0b0000001#7, 0b111#3 => .ok (.remu f.rd f.rs1 f.rs2)
  | _, _ => .error .reservedFunction

/-- OP-32, rule R115. -/
def decodeOp32 (f : Fields) : Except DecodeError Instr :=
  match f.f7, f.f3 with
  | 0b0000000#7, 0b000#3 => .ok (.addw f.rd f.rs1 f.rs2)
  | 0b0100000#7, 0b000#3 => .ok (.subw f.rd f.rs1 f.rs2)
  | 0b0000000#7, 0b001#3 => .ok (.sllw f.rd f.rs1 f.rs2)
  | 0b0000000#7, 0b101#3 => .ok (.srlw f.rd f.rs1 f.rs2)
  | 0b0100000#7, 0b101#3 => .ok (.sraw f.rd f.rs1 f.rs2)
  | 0b0000001#7, 0b000#3 => .ok (.mulw f.rd f.rs1 f.rs2)
  | 0b0000001#7, 0b100#3 => .ok (.divw f.rd f.rs1 f.rs2)
  | 0b0000001#7, 0b101#3 => .ok (.divuw f.rd f.rs1 f.rs2)
  | 0b0000001#7, 0b110#3 => .ok (.remw f.rd f.rs1 f.rs2)
  | 0b0000001#7, 0b111#3 => .ok (.remuw f.rd f.rs1 f.rs2)
  | _, _ => .error .reservedFunction

/-- AMO, rule R125. `lr` needs the rs2 field zero. -/
def decodeAmo (f : Fields) : Except DecodeError Instr :=
  match f.f5, f.f3 with
  | 0b00010#5, 0b010#3 => if f.rs2 = 0 then .ok (.lrW f.rd f.rs1 f.aq f.rl) else .error .reservedFunction
  | 0b00011#5, 0b010#3 => .ok (.scW f.rd f.rs1 f.rs2 f.aq f.rl)
  | 0b00001#5, 0b010#3 => .ok (.amoswapW f.rd f.rs1 f.rs2 f.aq f.rl)
  | 0b00000#5, 0b010#3 => .ok (.amoaddW f.rd f.rs1 f.rs2 f.aq f.rl)
  | 0b00100#5, 0b010#3 => .ok (.amoxorW f.rd f.rs1 f.rs2 f.aq f.rl)
  | 0b01000#5, 0b010#3 => .ok (.amoorW f.rd f.rs1 f.rs2 f.aq f.rl)
  | 0b01100#5, 0b010#3 => .ok (.amoandW f.rd f.rs1 f.rs2 f.aq f.rl)
  | 0b10000#5, 0b010#3 => .ok (.amominW f.rd f.rs1 f.rs2 f.aq f.rl)
  | 0b10100#5, 0b010#3 => .ok (.amomaxW f.rd f.rs1 f.rs2 f.aq f.rl)
  | 0b11000#5, 0b010#3 => .ok (.amominuW f.rd f.rs1 f.rs2 f.aq f.rl)
  | 0b11100#5, 0b010#3 => .ok (.amomaxuW f.rd f.rs1 f.rs2 f.aq f.rl)
  | 0b00010#5, 0b011#3 => if f.rs2 = 0 then .ok (.lrD f.rd f.rs1 f.aq f.rl) else .error .reservedFunction
  | 0b00011#5, 0b011#3 => .ok (.scD f.rd f.rs1 f.rs2 f.aq f.rl)
  | 0b00001#5, 0b011#3 => .ok (.amoswapD f.rd f.rs1 f.rs2 f.aq f.rl)
  | 0b00000#5, 0b011#3 => .ok (.amoaddD f.rd f.rs1 f.rs2 f.aq f.rl)
  | 0b00100#5, 0b011#3 => .ok (.amoxorD f.rd f.rs1 f.rs2 f.aq f.rl)
  | 0b01000#5, 0b011#3 => .ok (.amoorD f.rd f.rs1 f.rs2 f.aq f.rl)
  | 0b01100#5, 0b011#3 => .ok (.amoandD f.rd f.rs1 f.rs2 f.aq f.rl)
  | 0b10000#5, 0b011#3 => .ok (.amominD f.rd f.rs1 f.rs2 f.aq f.rl)
  | 0b10100#5, 0b011#3 => .ok (.amomaxD f.rd f.rs1 f.rs2 f.aq f.rl)
  | 0b11000#5, 0b011#3 => .ok (.amominuD f.rd f.rs1 f.rs2 f.aq f.rl)
  | 0b11100#5, 0b011#3 => .ok (.amomaxuD f.rd f.rs1 f.rs2 f.aq f.rl)
  | _, _ => .error .reservedFunction

/-- MADD, rule R127 (the format in `fmt`, R98). -/
def decodeMadd (f : Fields) : Except DecodeError Instr :=
  match f.fmt with
  | 0b00#2 => .ok (.fmaddS f.rd f.rs1 f.rs2 f.rs3 f.f3)
  | 0b01#2 => .ok (.fmaddD f.rd f.rs1 f.rs2 f.rs3 f.f3)
  | 0b11#2 => .ok (.fmaddQ f.rd f.rs1 f.rs2 f.rs3 f.f3)
  | _ => .error .reservedFunction

/-- MSUB, rule R127 (the format in `fmt`, R98). -/
def decodeMsub (f : Fields) : Except DecodeError Instr :=
  match f.fmt with
  | 0b00#2 => .ok (.fmsubS f.rd f.rs1 f.rs2 f.rs3 f.f3)
  | 0b01#2 => .ok (.fmsubD f.rd f.rs1 f.rs2 f.rs3 f.f3)
  | 0b11#2 => .ok (.fmsubQ f.rd f.rs1 f.rs2 f.rs3 f.f3)
  | _ => .error .reservedFunction

/-- NMSUB, rule R127 (the format in `fmt`, R98). -/
def decodeNmsub (f : Fields) : Except DecodeError Instr :=
  match f.fmt with
  | 0b00#2 => .ok (.fnmsubS f.rd f.rs1 f.rs2 f.rs3 f.f3)
  | 0b01#2 => .ok (.fnmsubD f.rd f.rs1 f.rs2 f.rs3 f.f3)
  | 0b11#2 => .ok (.fnmsubQ f.rd f.rs1 f.rs2 f.rs3 f.f3)
  | _ => .error .reservedFunction

/-- NMADD, rule R127 (the format in `fmt`, R98). -/
def decodeNmadd (f : Fields) : Except DecodeError Instr :=
  match f.fmt with
  | 0b00#2 => .ok (.fnmaddS f.rd f.rs1 f.rs2 f.rs3 f.f3)
  | 0b01#2 => .ok (.fnmaddD f.rd f.rs1 f.rs2 f.rs3 f.f3)
  | 0b11#2 => .ok (.fnmaddQ f.rd f.rs1 f.rs2 f.rs3 f.f3)
  | _ => .error .reservedFunction

/-- OP-FP, rule R128: by `funct7`, then by `rs2` or `funct3` where the row fixes them. -/
def decodeOpFp (f : Fields) : Except DecodeError Instr :=
  match f.f7 with
  | 0b0000000#7 => .ok (.faddS f.rd f.rs1 f.rs2 f.f3)
  | 0b0000100#7 => .ok (.fsubS f.rd f.rs1 f.rs2 f.f3)
  | 0b0001000#7 => .ok (.fmulS f.rd f.rs1 f.rs2 f.f3)
  | 0b0001100#7 => .ok (.fdivS f.rd f.rs1 f.rs2 f.f3)
  | 0b0010000#7 =>
    match f.f3 with
    | 0b000#3 => .ok (.fsgnjS f.rd f.rs1 f.rs2)
    | 0b001#3 => .ok (.fsgnjnS f.rd f.rs1 f.rs2)
    | 0b010#3 => .ok (.fsgnjxS f.rd f.rs1 f.rs2)
    | _ => .error .reservedFunction
  | 0b0010100#7 =>
    match f.f3 with
    | 0b000#3 => .ok (.fminS f.rd f.rs1 f.rs2)
    | 0b001#3 => .ok (.fmaxS f.rd f.rs1 f.rs2)
    | _ => .error .reservedFunction
  | 0b0101100#7 =>
    match f.rs2 with
    | 0b00000#5 => .ok (.fsqrtS f.rd f.rs1 f.f3)
    | _ => .error .reservedFunction
  | 0b1010000#7 =>
    match f.f3 with
    | 0b000#3 => .ok (.fleS f.rd f.rs1 f.rs2)
    | 0b001#3 => .ok (.fltS f.rd f.rs1 f.rs2)
    | 0b010#3 => .ok (.feqS f.rd f.rs1 f.rs2)
    | _ => .error .reservedFunction
  | 0b1100000#7 =>
    match f.rs2 with
    | 0b00000#5 => .ok (.fcvtWS f.rd f.rs1 f.f3)
    | 0b00001#5 => .ok (.fcvtWuS f.rd f.rs1 f.f3)
    | 0b00010#5 => .ok (.fcvtLS f.rd f.rs1 f.f3)
    | 0b00011#5 => .ok (.fcvtLuS f.rd f.rs1 f.f3)
    | _ => .error .reservedFunction
  | 0b1101000#7 =>
    match f.rs2 with
    | 0b00000#5 => .ok (.fcvtSW f.rd f.rs1 f.f3)
    | 0b00001#5 => .ok (.fcvtSWu f.rd f.rs1 f.f3)
    | 0b00010#5 => .ok (.fcvtSL f.rd f.rs1 f.f3)
    | 0b00011#5 => .ok (.fcvtSLu f.rd f.rs1 f.f3)
    | _ => .error .reservedFunction
  | 0b1110000#7 =>
    match f.rs2, f.f3 with
    | 0b00000#5, 0b000#3 => .ok (.fmvXS f.rd f.rs1)
    | 0b00000#5, 0b001#3 => .ok (.fclassS f.rd f.rs1)
    | _, _ => .error .reservedFunction
  | 0b1111000#7 =>
    match f.rs2, f.f3 with
    | 0b00000#5, 0b000#3 => .ok (.fmvSX f.rd f.rs1)
    | _, _ => .error .reservedFunction
  | 0b0000001#7 => .ok (.faddD f.rd f.rs1 f.rs2 f.f3)
  | 0b0000101#7 => .ok (.fsubD f.rd f.rs1 f.rs2 f.f3)
  | 0b0001001#7 => .ok (.fmulD f.rd f.rs1 f.rs2 f.f3)
  | 0b0001101#7 => .ok (.fdivD f.rd f.rs1 f.rs2 f.f3)
  | 0b0010001#7 =>
    match f.f3 with
    | 0b000#3 => .ok (.fsgnjD f.rd f.rs1 f.rs2)
    | 0b001#3 => .ok (.fsgnjnD f.rd f.rs1 f.rs2)
    | 0b010#3 => .ok (.fsgnjxD f.rd f.rs1 f.rs2)
    | _ => .error .reservedFunction
  | 0b0010101#7 =>
    match f.f3 with
    | 0b000#3 => .ok (.fminD f.rd f.rs1 f.rs2)
    | 0b001#3 => .ok (.fmaxD f.rd f.rs1 f.rs2)
    | _ => .error .reservedFunction
  | 0b0100000#7 =>
    match f.rs2 with
    | 0b00001#5 => .ok (.fcvtSD f.rd f.rs1 f.f3)
    | 0b00011#5 => .ok (.fcvtSQ f.rd f.rs1 f.f3)
    | _ => .error .reservedFunction
  | 0b0100001#7 =>
    match f.rs2 with
    | 0b00000#5 => .ok (.fcvtDS f.rd f.rs1 f.f3)
    | 0b00011#5 => .ok (.fcvtDQ f.rd f.rs1 f.f3)
    | _ => .error .reservedFunction
  | 0b0101101#7 =>
    match f.rs2 with
    | 0b00000#5 => .ok (.fsqrtD f.rd f.rs1 f.f3)
    | _ => .error .reservedFunction
  | 0b1010001#7 =>
    match f.f3 with
    | 0b000#3 => .ok (.fleD f.rd f.rs1 f.rs2)
    | 0b001#3 => .ok (.fltD f.rd f.rs1 f.rs2)
    | 0b010#3 => .ok (.feqD f.rd f.rs1 f.rs2)
    | _ => .error .reservedFunction
  | 0b1100001#7 =>
    match f.rs2 with
    | 0b00000#5 => .ok (.fcvtWD f.rd f.rs1 f.f3)
    | 0b00001#5 => .ok (.fcvtWuD f.rd f.rs1 f.f3)
    | 0b00010#5 => .ok (.fcvtLD f.rd f.rs1 f.f3)
    | 0b00011#5 => .ok (.fcvtLuD f.rd f.rs1 f.f3)
    | _ => .error .reservedFunction
  | 0b1101001#7 =>
    match f.rs2 with
    | 0b00000#5 => .ok (.fcvtDW f.rd f.rs1 f.f3)
    | 0b00001#5 => .ok (.fcvtDWu f.rd f.rs1 f.f3)
    | 0b00010#5 => .ok (.fcvtDL f.rd f.rs1 f.f3)
    | 0b00011#5 => .ok (.fcvtDLu f.rd f.rs1 f.f3)
    | _ => .error .reservedFunction
  | 0b1110001#7 =>
    match f.rs2, f.f3 with
    | 0b00000#5, 0b001#3 => .ok (.fclassD f.rd f.rs1)
    | 0b00000#5, 0b000#3 => .ok (.fmvXD f.rd f.rs1)
    | _, _ => .error .reservedFunction
  | 0b1111001#7 =>
    match f.rs2, f.f3 with
    | 0b00000#5, 0b000#3 => .ok (.fmvDX f.rd f.rs1)
    | _, _ => .error .reservedFunction
  | 0b0000011#7 => .ok (.faddQ f.rd f.rs1 f.rs2 f.f3)
  | 0b0000111#7 => .ok (.fsubQ f.rd f.rs1 f.rs2 f.f3)
  | 0b0001011#7 => .ok (.fmulQ f.rd f.rs1 f.rs2 f.f3)
  | 0b0001111#7 => .ok (.fdivQ f.rd f.rs1 f.rs2 f.f3)
  | 0b0010011#7 =>
    match f.f3 with
    | 0b000#3 => .ok (.fsgnjQ f.rd f.rs1 f.rs2)
    | 0b001#3 => .ok (.fsgnjnQ f.rd f.rs1 f.rs2)
    | 0b010#3 => .ok (.fsgnjxQ f.rd f.rs1 f.rs2)
    | _ => .error .reservedFunction
  | 0b0010111#7 =>
    match f.f3 with
    | 0b000#3 => .ok (.fminQ f.rd f.rs1 f.rs2)
    | 0b001#3 => .ok (.fmaxQ f.rd f.rs1 f.rs2)
    | _ => .error .reservedFunction
  | 0b0100011#7 =>
    match f.rs2 with
    | 0b00000#5 => .ok (.fcvtQS f.rd f.rs1 f.f3)
    | 0b00001#5 => .ok (.fcvtQD f.rd f.rs1 f.f3)
    | _ => .error .reservedFunction
  | 0b0101111#7 =>
    match f.rs2 with
    | 0b00000#5 => .ok (.fsqrtQ f.rd f.rs1 f.f3)
    | _ => .error .reservedFunction
  | 0b1010011#7 =>
    match f.f3 with
    | 0b000#3 => .ok (.fleQ f.rd f.rs1 f.rs2)
    | 0b001#3 => .ok (.fltQ f.rd f.rs1 f.rs2)
    | 0b010#3 => .ok (.feqQ f.rd f.rs1 f.rs2)
    | _ => .error .reservedFunction
  | 0b1100011#7 =>
    match f.rs2 with
    | 0b00000#5 => .ok (.fcvtWQ f.rd f.rs1 f.f3)
    | 0b00001#5 => .ok (.fcvtWuQ f.rd f.rs1 f.f3)
    | 0b00010#5 => .ok (.fcvtLQ f.rd f.rs1 f.f3)
    | 0b00011#5 => .ok (.fcvtLuQ f.rd f.rs1 f.f3)
    | _ => .error .reservedFunction
  | 0b1101011#7 =>
    match f.rs2 with
    | 0b00000#5 => .ok (.fcvtQW f.rd f.rs1 f.f3)
    | 0b00001#5 => .ok (.fcvtQWu f.rd f.rs1 f.f3)
    | 0b00010#5 => .ok (.fcvtQL f.rd f.rs1 f.f3)
    | 0b00011#5 => .ok (.fcvtQLu f.rd f.rs1 f.f3)
    | _ => .error .reservedFunction
  | 0b1110011#7 =>
    match f.rs2, f.f3 with
    | 0b00000#5, 0b001#3 => .ok (.fclassQ f.rd f.rs1)
    | 0b00000#5, 0b000#3 => .ok (.fmvXQ f.rd f.rs1)
    | _, _ => .error .reservedFunction
  | 0b1111011#7 =>
    match f.rs2, f.f3 with
    | 0b00000#5, 0b000#3 => .ok (.fmvQX f.rd f.rs1)
    | _, _ => .error .reservedFunction
  | _ => .error .reservedFunction

/-- SYSTEM with `funct3` 000, rule R119: selected by `inst[31:20]`. -/
def decodePriv (f : Fields) : Except DecodeError Instr :=
  if f.rd = 0 then
    if f.immI = 0x104#12 then .ok (.sfenceVm f.rs1)
    else if f.rs1 = 0 then
      match f.immI with
      | 0x000#12 => .ok .ecall
      | 0x001#12 => .ok .ebreak
      | 0x002#12 => .ok .uret
      | 0x102#12 => .ok .sret
      | 0x202#12 => .ok .hret
      | 0x302#12 => .ok .mret
      | 0x7b2#12 => .ok .dret
      | 0x105#12 => .ok .wfi
      | _ => .error .reservedFunction
    else .error .reservedFunction
  else .error .reservedFunction

/-- `csrrw`, or the row of rule R132 that is this word. -/
def decodeCsrrw (f : Fields) : Instr :=
  match f.immI with
  | 0x003#12 => .fscsr f.rd f.rs1
  | 0x002#12 => .fsrm f.rd f.rs1
  | 0x001#12 => .fsflags f.rd f.rs1
  | _ => .csrrw f.rd f.immI f.rs1

/-- `csrrs`, or the row of rule R132 that is this word (those have the rs1 field zero). -/
def decodeCsrrs (f : Fields) : Instr :=
  if f.rs1 = 0 then
    match f.immI with
    | 0xc00#12 => .rdcycle f.rd
    | 0xc01#12 => .rdtime f.rd
    | 0xc02#12 => .rdinstret f.rd
    | 0xc80#12 => .rdcycleh f.rd
    | 0xc81#12 => .rdtimeh f.rd
    | 0xc82#12 => .rdinstreth f.rd
    | 0x003#12 => .frcsr f.rd
    | 0x002#12 => .frrm f.rd
    | 0x001#12 => .frflags f.rd
    | _ => .csrrs f.rd f.immI f.rs1
  else .csrrs f.rd f.immI f.rs1

/-- `csrrwi`, or the row of rule R132 that is this word. -/
def decodeCsrrwi (f : Fields) : Instr :=
  match f.immI with
  | 0x002#12 => .fsrmi f.rd f.rs1
  | 0x001#12 => .fsflagsi f.rd f.rs1
  | _ => .csrrwi f.rd f.immI f.rs1

/-- SYSTEM, rule R119; the rows of rule R132 are tried before the CSR instruction they are a case of. -/
def decodeSystem (f : Fields) : Except DecodeError Instr :=
  match f.f3 with
  | 0b000#3 => decodePriv f
  | 0b001#3 => .ok (decodeCsrrw f)
  | 0b010#3 => .ok (decodeCsrrs f)
  | 0b011#3 => .ok (.csrrc f.rd f.immI f.rs1)
  | 0b101#3 => .ok (decodeCsrrwi f)
  | 0b110#3 => .ok (.csrrsi f.rd f.immI f.rs1)
  | 0b111#3 => .ok (.csrrci f.rd f.immI f.rs1)
  | _ => .error .reservedFunction

/-- The opcode map, rule R110. -/
def decodeFields (f : Fields) : Except DecodeError Instr :=
  match f.op with
  | 0b0000011#7 => decodeLoad f
  | 0b0000111#7 => decodeLoadFp f
  | 0b0001111#7 => decodeMiscMem f
  | 0b0010011#7 => decodeOpImm f
  | 0b0010111#7 => .ok (.auipc f.rd f.immU)
  | 0b0011011#7 => decodeOpImm32 f
  | 0b0100011#7 => decodeStore f
  | 0b0100111#7 => decodeStoreFp f
  | 0b0101111#7 => decodeAmo f
  | 0b0110011#7 => decodeOp f
  | 0b0110111#7 => .ok (.lui f.rd f.immU)
  | 0b0111011#7 => decodeOp32 f
  | 0b1000011#7 => decodeMadd f
  | 0b1000111#7 => decodeMsub f
  | 0b1001011#7 => decodeNmsub f
  | 0b1001111#7 => decodeNmadd f
  | 0b1010011#7 => decodeOpFp f
  | 0b1100011#7 => decodeBranch f
  | 0b1100111#7 => decodeJalr f
  | 0b1101111#7 => .ok (.jal f.rd f.immJ)
  | 0b1110011#7 => decodeSystem f
  | _ => if f.op.extractLsb' 0 2 = 0b11#2 ∧ f.op.extractLsb' 2 3 ≠ 0b111#3
      then .error .noSuchOpcode else .error .notThirtyTwoBits

/-- The decoder on one instruction word. -/
def decode (w : InstrWord) : Except DecodeError Instr := decodeFields (.split w)

/-- Four bytes as one little-endian word: the first byte holds bits [7:0] (spec/20_memory.md R65). -/
def wordOfBytes (b0 b1 b2 b3 : Byte) : InstrWord := b3 ++ b2 ++ b1 ++ b0

/-- The byte of a word at offset `k` from its address (spec/20_memory.md R61). -/
def byteOfWord (w : InstrWord) (k : Nat) : Byte := w.extractLsb' (8 * k) 8

/-- The decoder on any bytes: an instruction and the bytes after it. -/
def decodeBytes : List Byte → Except DecodeError (Instr × List Byte)
  | b0 :: b1 :: b2 :: b3 :: rest =>
    match decode (wordOfBytes b0 b1 b2 b3) with
    | .ok i => .ok (i, rest)
    | .error e => .error e
  | _ => .error .tooShort

/-- The word numbered as the opcode table numbers its bits, with every bit from `nbits` up zero. -/
def tableWord (nbits w : Nat) : InstrWord := BitVec.ofNat 32 (w % 2 ^ nbits)

/-- The instruction the decoder reads from a row of the opcode table, its bytes laid out as memory holds them. -/
def decodeTableWord (nbits w : Nat) : Option Instr :=
  let v := tableWord nbits w
  match decodeBytes [byteOfWord v 0, byteOfWord v 1, byteOfWord v 2, byteOfWord v 3] with
  | .ok (i, _) => some i
  | .error _ => none

/-- The I format (rule R93). -/
def Fields.ofI (imm : BitVec 12) (rs1 : BitVec 5) (f3 : BitVec 3) (rd : BitVec 5) (op : BitVec 7) : Fields :=
  ⟨imm.extractLsb' 5 7, imm.extractLsb' 0 5, rs1, f3, rd, op⟩

/-- The S format (rule R94). -/
def Fields.ofS (imm : BitVec 12) (rs2 rs1 : BitVec 5) (f3 : BitVec 3) (op : BitVec 7) : Fields :=
  ⟨imm.extractLsb' 5 7, rs2, rs1, f3, imm.extractLsb' 0 5, op⟩

/-- The B format (rule R95); bit 0 of the offset has no place in the word. -/
def Fields.ofB (imm : BitVec 13) (rs2 rs1 : BitVec 5) (f3 : BitVec 3) (op : BitVec 7) : Fields :=
  ⟨imm.extractLsb' 12 1 ++ imm.extractLsb' 5 6, rs2, rs1, f3, imm.extractLsb' 1 4 ++ imm.extractLsb' 11 1, op⟩

/-- The U format (rule R96). -/
def Fields.ofU (imm : BitVec 20) (rd : BitVec 5) (op : BitVec 7) : Fields :=
  ⟨imm.extractLsb' 13 7, imm.extractLsb' 8 5, imm.extractLsb' 3 5, imm.extractLsb' 0 3, rd, op⟩

/-- The J format (rule R97); bit 0 of the offset has no place in the word. -/
def Fields.ofJ (imm : BitVec 21) (rd : BitVec 5) (op : BitVec 7) : Fields :=
  ⟨imm.extractLsb' 20 1 ++ imm.extractLsb' 5 6, imm.extractLsb' 1 4 ++ imm.extractLsb' 11 1,
    imm.extractLsb' 15 5, imm.extractLsb' 12 3, rd, op⟩

/-- The fields of the word of an instruction, from the encodings of rules R92 to R99 and R105 to R128. -/
def fieldsOf : Instr → Fields
  | .lui rd imm => Fields.ofU imm rd 0b0110111#7
  | .auipc rd imm => Fields.ofU imm rd 0b0010111#7
  | .jal rd imm => Fields.ofJ imm rd 0b1101111#7
  | .jalr rd rs1 imm => Fields.ofI imm rs1 0b000#3 rd 0b1100111#7
  | .beq rs1 rs2 imm => Fields.ofB imm rs2 rs1 0b000#3 0b1100011#7
  | .bne rs1 rs2 imm => Fields.ofB imm rs2 rs1 0b001#3 0b1100011#7
  | .blt rs1 rs2 imm => Fields.ofB imm rs2 rs1 0b100#3 0b1100011#7
  | .bge rs1 rs2 imm => Fields.ofB imm rs2 rs1 0b101#3 0b1100011#7
  | .bltu rs1 rs2 imm => Fields.ofB imm rs2 rs1 0b110#3 0b1100011#7
  | .bgeu rs1 rs2 imm => Fields.ofB imm rs2 rs1 0b111#3 0b1100011#7
  | .lb rd rs1 imm => Fields.ofI imm rs1 0b000#3 rd 0b0000011#7
  | .lh rd rs1 imm => Fields.ofI imm rs1 0b001#3 rd 0b0000011#7
  | .lw rd rs1 imm => Fields.ofI imm rs1 0b010#3 rd 0b0000011#7
  | .lbu rd rs1 imm => Fields.ofI imm rs1 0b100#3 rd 0b0000011#7
  | .lhu rd rs1 imm => Fields.ofI imm rs1 0b101#3 rd 0b0000011#7
  | .lwu rd rs1 imm => Fields.ofI imm rs1 0b110#3 rd 0b0000011#7
  | .sb rs1 rs2 imm => Fields.ofS imm rs2 rs1 0b000#3 0b0100011#7
  | .sh rs1 rs2 imm => Fields.ofS imm rs2 rs1 0b001#3 0b0100011#7
  | .sw rs1 rs2 imm => Fields.ofS imm rs2 rs1 0b010#3 0b0100011#7
  | .addi rd rs1 imm => Fields.ofI imm rs1 0b000#3 rd 0b0010011#7
  | .slti rd rs1 imm => Fields.ofI imm rs1 0b010#3 rd 0b0010011#7
  | .sltiu rd rs1 imm => Fields.ofI imm rs1 0b011#3 rd 0b0010011#7
  | .xori rd rs1 imm => Fields.ofI imm rs1 0b100#3 rd 0b0010011#7
  | .ori rd rs1 imm => Fields.ofI imm rs1 0b110#3 rd 0b0010011#7
  | .andi rd rs1 imm => Fields.ofI imm rs1 0b111#3 rd 0b0010011#7
  | .slli rd rs1 shamt => Fields.ofI (0b000000#6 ++ shamt) rs1 0b001#3 rd 0b0010011#7
  | .srli rd rs1 shamt => Fields.ofI (0b000000#6 ++ shamt) rs1 0b101#3 rd 0b0010011#7
  | .srai rd rs1 shamt => Fields.ofI (0b010000#6 ++ shamt) rs1 0b101#3 rd 0b0010011#7
  | .add rd rs1 rs2 => ⟨0b0000000#7, rs2, rs1, 0b000#3, rd, 0b0110011#7⟩
  | .sub rd rs1 rs2 => ⟨0b0100000#7, rs2, rs1, 0b000#3, rd, 0b0110011#7⟩
  | .sll rd rs1 rs2 => ⟨0b0000000#7, rs2, rs1, 0b001#3, rd, 0b0110011#7⟩
  | .slt rd rs1 rs2 => ⟨0b0000000#7, rs2, rs1, 0b010#3, rd, 0b0110011#7⟩
  | .sltu rd rs1 rs2 => ⟨0b0000000#7, rs2, rs1, 0b011#3, rd, 0b0110011#7⟩
  | .xor rd rs1 rs2 => ⟨0b0000000#7, rs2, rs1, 0b100#3, rd, 0b0110011#7⟩
  | .srl rd rs1 rs2 => ⟨0b0000000#7, rs2, rs1, 0b101#3, rd, 0b0110011#7⟩
  | .sra rd rs1 rs2 => ⟨0b0100000#7, rs2, rs1, 0b101#3, rd, 0b0110011#7⟩
  | .or rd rs1 rs2 => ⟨0b0000000#7, rs2, rs1, 0b110#3, rd, 0b0110011#7⟩
  | .and rd rs1 rs2 => ⟨0b0000000#7, rs2, rs1, 0b111#3, rd, 0b0110011#7⟩
  | .fence fm pred succ rs1 rd => Fields.ofI (fm ++ pred ++ succ) rs1 0b000#3 rd 0b0001111#7
  | .fenceI imm rs1 rd => Fields.ofI imm rs1 0b001#3 rd 0b0001111#7
  | .ld rd rs1 imm => Fields.ofI imm rs1 0b011#3 rd 0b0000011#7
  | .sd rs1 rs2 imm => Fields.ofS imm rs2 rs1 0b011#3 0b0100011#7
  | .addiw rd rs1 imm => Fields.ofI imm rs1 0b000#3 rd 0b0011011#7
  | .slliw rd rs1 shamt => ⟨0b0000000#7, shamt, rs1, 0b001#3, rd, 0b0011011#7⟩
  | .srliw rd rs1 shamt => ⟨0b0000000#7, shamt, rs1, 0b101#3, rd, 0b0011011#7⟩
  | .sraiw rd rs1 shamt => ⟨0b0100000#7, shamt, rs1, 0b101#3, rd, 0b0011011#7⟩
  | .addw rd rs1 rs2 => ⟨0b0000000#7, rs2, rs1, 0b000#3, rd, 0b0111011#7⟩
  | .subw rd rs1 rs2 => ⟨0b0100000#7, rs2, rs1, 0b000#3, rd, 0b0111011#7⟩
  | .sllw rd rs1 rs2 => ⟨0b0000000#7, rs2, rs1, 0b001#3, rd, 0b0111011#7⟩
  | .srlw rd rs1 rs2 => ⟨0b0000000#7, rs2, rs1, 0b101#3, rd, 0b0111011#7⟩
  | .sraw rd rs1 rs2 => ⟨0b0100000#7, rs2, rs1, 0b101#3, rd, 0b0111011#7⟩
  | .mul rd rs1 rs2 => ⟨0b0000001#7, rs2, rs1, 0b000#3, rd, 0b0110011#7⟩
  | .mulh rd rs1 rs2 => ⟨0b0000001#7, rs2, rs1, 0b001#3, rd, 0b0110011#7⟩
  | .mulhsu rd rs1 rs2 => ⟨0b0000001#7, rs2, rs1, 0b010#3, rd, 0b0110011#7⟩
  | .mulhu rd rs1 rs2 => ⟨0b0000001#7, rs2, rs1, 0b011#3, rd, 0b0110011#7⟩
  | .div rd rs1 rs2 => ⟨0b0000001#7, rs2, rs1, 0b100#3, rd, 0b0110011#7⟩
  | .divu rd rs1 rs2 => ⟨0b0000001#7, rs2, rs1, 0b101#3, rd, 0b0110011#7⟩
  | .rem rd rs1 rs2 => ⟨0b0000001#7, rs2, rs1, 0b110#3, rd, 0b0110011#7⟩
  | .remu rd rs1 rs2 => ⟨0b0000001#7, rs2, rs1, 0b111#3, rd, 0b0110011#7⟩
  | .mulw rd rs1 rs2 => ⟨0b0000001#7, rs2, rs1, 0b000#3, rd, 0b0111011#7⟩
  | .divw rd rs1 rs2 => ⟨0b0000001#7, rs2, rs1, 0b100#3, rd, 0b0111011#7⟩
  | .divuw rd rs1 rs2 => ⟨0b0000001#7, rs2, rs1, 0b101#3, rd, 0b0111011#7⟩
  | .remw rd rs1 rs2 => ⟨0b0000001#7, rs2, rs1, 0b110#3, rd, 0b0111011#7⟩
  | .remuw rd rs1 rs2 => ⟨0b0000001#7, rs2, rs1, 0b111#3, rd, 0b0111011#7⟩
  | .lrW rd rs1 aq rl => ⟨0b00010#5 ++ BitVec.ofBool aq ++ BitVec.ofBool rl, 0#5, rs1, 0b010#3, rd, 0b0101111#7⟩
  | .scW rd rs1 rs2 aq rl => ⟨0b00011#5 ++ BitVec.ofBool aq ++ BitVec.ofBool rl, rs2, rs1, 0b010#3, rd, 0b0101111#7⟩
  | .amoswapW rd rs1 rs2 aq rl => ⟨0b00001#5 ++ BitVec.ofBool aq ++ BitVec.ofBool rl, rs2, rs1, 0b010#3, rd, 0b0101111#7⟩
  | .amoaddW rd rs1 rs2 aq rl => ⟨0b00000#5 ++ BitVec.ofBool aq ++ BitVec.ofBool rl, rs2, rs1, 0b010#3, rd, 0b0101111#7⟩
  | .amoxorW rd rs1 rs2 aq rl => ⟨0b00100#5 ++ BitVec.ofBool aq ++ BitVec.ofBool rl, rs2, rs1, 0b010#3, rd, 0b0101111#7⟩
  | .amoorW rd rs1 rs2 aq rl => ⟨0b01000#5 ++ BitVec.ofBool aq ++ BitVec.ofBool rl, rs2, rs1, 0b010#3, rd, 0b0101111#7⟩
  | .amoandW rd rs1 rs2 aq rl => ⟨0b01100#5 ++ BitVec.ofBool aq ++ BitVec.ofBool rl, rs2, rs1, 0b010#3, rd, 0b0101111#7⟩
  | .amominW rd rs1 rs2 aq rl => ⟨0b10000#5 ++ BitVec.ofBool aq ++ BitVec.ofBool rl, rs2, rs1, 0b010#3, rd, 0b0101111#7⟩
  | .amomaxW rd rs1 rs2 aq rl => ⟨0b10100#5 ++ BitVec.ofBool aq ++ BitVec.ofBool rl, rs2, rs1, 0b010#3, rd, 0b0101111#7⟩
  | .amominuW rd rs1 rs2 aq rl => ⟨0b11000#5 ++ BitVec.ofBool aq ++ BitVec.ofBool rl, rs2, rs1, 0b010#3, rd, 0b0101111#7⟩
  | .amomaxuW rd rs1 rs2 aq rl => ⟨0b11100#5 ++ BitVec.ofBool aq ++ BitVec.ofBool rl, rs2, rs1, 0b010#3, rd, 0b0101111#7⟩
  | .lrD rd rs1 aq rl => ⟨0b00010#5 ++ BitVec.ofBool aq ++ BitVec.ofBool rl, 0#5, rs1, 0b011#3, rd, 0b0101111#7⟩
  | .scD rd rs1 rs2 aq rl => ⟨0b00011#5 ++ BitVec.ofBool aq ++ BitVec.ofBool rl, rs2, rs1, 0b011#3, rd, 0b0101111#7⟩
  | .amoswapD rd rs1 rs2 aq rl => ⟨0b00001#5 ++ BitVec.ofBool aq ++ BitVec.ofBool rl, rs2, rs1, 0b011#3, rd, 0b0101111#7⟩
  | .amoaddD rd rs1 rs2 aq rl => ⟨0b00000#5 ++ BitVec.ofBool aq ++ BitVec.ofBool rl, rs2, rs1, 0b011#3, rd, 0b0101111#7⟩
  | .amoxorD rd rs1 rs2 aq rl => ⟨0b00100#5 ++ BitVec.ofBool aq ++ BitVec.ofBool rl, rs2, rs1, 0b011#3, rd, 0b0101111#7⟩
  | .amoorD rd rs1 rs2 aq rl => ⟨0b01000#5 ++ BitVec.ofBool aq ++ BitVec.ofBool rl, rs2, rs1, 0b011#3, rd, 0b0101111#7⟩
  | .amoandD rd rs1 rs2 aq rl => ⟨0b01100#5 ++ BitVec.ofBool aq ++ BitVec.ofBool rl, rs2, rs1, 0b011#3, rd, 0b0101111#7⟩
  | .amominD rd rs1 rs2 aq rl => ⟨0b10000#5 ++ BitVec.ofBool aq ++ BitVec.ofBool rl, rs2, rs1, 0b011#3, rd, 0b0101111#7⟩
  | .amomaxD rd rs1 rs2 aq rl => ⟨0b10100#5 ++ BitVec.ofBool aq ++ BitVec.ofBool rl, rs2, rs1, 0b011#3, rd, 0b0101111#7⟩
  | .amominuD rd rs1 rs2 aq rl => ⟨0b11000#5 ++ BitVec.ofBool aq ++ BitVec.ofBool rl, rs2, rs1, 0b011#3, rd, 0b0101111#7⟩
  | .amomaxuD rd rs1 rs2 aq rl => ⟨0b11100#5 ++ BitVec.ofBool aq ++ BitVec.ofBool rl, rs2, rs1, 0b011#3, rd, 0b0101111#7⟩
  | .ecall => Fields.ofI 0x000#12 0#5 0b000#3 0#5 0b1110011#7
  | .ebreak => Fields.ofI 0x001#12 0#5 0b000#3 0#5 0b1110011#7
  | .uret => Fields.ofI 0x002#12 0#5 0b000#3 0#5 0b1110011#7
  | .sret => Fields.ofI 0x102#12 0#5 0b000#3 0#5 0b1110011#7
  | .hret => Fields.ofI 0x202#12 0#5 0b000#3 0#5 0b1110011#7
  | .mret => Fields.ofI 0x302#12 0#5 0b000#3 0#5 0b1110011#7
  | .dret => Fields.ofI 0x7b2#12 0#5 0b000#3 0#5 0b1110011#7
  | .sfenceVm rs1 => Fields.ofI 0x104#12 rs1 0b000#3 0#5 0b1110011#7
  | .wfi => Fields.ofI 0x105#12 0#5 0b000#3 0#5 0b1110011#7
  | .rdcycle rd => Fields.ofI 0xc00#12 0#5 0b010#3 rd 0b1110011#7
  | .rdtime rd => Fields.ofI 0xc01#12 0#5 0b010#3 rd 0b1110011#7
  | .rdinstret rd => Fields.ofI 0xc02#12 0#5 0b010#3 rd 0b1110011#7
  | .rdcycleh rd => Fields.ofI 0xc80#12 0#5 0b010#3 rd 0b1110011#7
  | .rdtimeh rd => Fields.ofI 0xc81#12 0#5 0b010#3 rd 0b1110011#7
  | .rdinstreth rd => Fields.ofI 0xc82#12 0#5 0b010#3 rd 0b1110011#7
  | .csrrw rd csr rs1 => Fields.ofI csr rs1 0b001#3 rd 0b1110011#7
  | .csrrs rd csr rs1 => Fields.ofI csr rs1 0b010#3 rd 0b1110011#7
  | .csrrc rd csr rs1 => Fields.ofI csr rs1 0b011#3 rd 0b1110011#7
  | .csrrwi rd csr zimm => Fields.ofI csr zimm 0b101#3 rd 0b1110011#7
  | .csrrsi rd csr zimm => Fields.ofI csr zimm 0b110#3 rd 0b1110011#7
  | .csrrci rd csr zimm => Fields.ofI csr zimm 0b111#3 rd 0b1110011#7
  | .flw rd rs1 imm => Fields.ofI imm rs1 0b010#3 rd 0b0000111#7
  | .fsw rs1 rs2 imm => Fields.ofS imm rs2 rs1 0b010#3 0b0100111#7
  | .fmaddS rd rs1 rs2 rs3 rm => ⟨rs3 ++ 0b00#2, rs2, rs1, rm, rd, 0b1000011#7⟩
  | .fmsubS rd rs1 rs2 rs3 rm => ⟨rs3 ++ 0b00#2, rs2, rs1, rm, rd, 0b1000111#7⟩
  | .fnmaddS rd rs1 rs2 rs3 rm => ⟨rs3 ++ 0b00#2, rs2, rs1, rm, rd, 0b1001111#7⟩
  | .fnmsubS rd rs1 rs2 rs3 rm => ⟨rs3 ++ 0b00#2, rs2, rs1, rm, rd, 0b1001011#7⟩
  | .faddS rd rs1 rs2 rm => ⟨0b0000000#7, rs2, rs1, rm, rd, 0b1010011#7⟩
  | .fsubS rd rs1 rs2 rm => ⟨0b0000100#7, rs2, rs1, rm, rd, 0b1010011#7⟩
  | .fmulS rd rs1 rs2 rm => ⟨0b0001000#7, rs2, rs1, rm, rd, 0b1010011#7⟩
  | .fdivS rd rs1 rs2 rm => ⟨0b0001100#7, rs2, rs1, rm, rd, 0b1010011#7⟩
  | .fsgnjS rd rs1 rs2 => ⟨0b0010000#7, rs2, rs1, 0b000#3, rd, 0b1010011#7⟩
  | .fsgnjnS rd rs1 rs2 => ⟨0b0010000#7, rs2, rs1, 0b001#3, rd, 0b1010011#7⟩
  | .fsgnjxS rd rs1 rs2 => ⟨0b0010000#7, rs2, rs1, 0b010#3, rd, 0b1010011#7⟩
  | .fminS rd rs1 rs2 => ⟨0b0010100#7, rs2, rs1, 0b000#3, rd, 0b1010011#7⟩
  | .fmaxS rd rs1 rs2 => ⟨0b0010100#7, rs2, rs1, 0b001#3, rd, 0b1010011#7⟩
  | .fsqrtS rd rs1 rm => ⟨0b0101100#7, 0b00000#5, rs1, rm, rd, 0b1010011#7⟩
  | .fleS rd rs1 rs2 => ⟨0b1010000#7, rs2, rs1, 0b000#3, rd, 0b1010011#7⟩
  | .fltS rd rs1 rs2 => ⟨0b1010000#7, rs2, rs1, 0b001#3, rd, 0b1010011#7⟩
  | .feqS rd rs1 rs2 => ⟨0b1010000#7, rs2, rs1, 0b010#3, rd, 0b1010011#7⟩
  | .fcvtWS rd rs1 rm => ⟨0b1100000#7, 0b00000#5, rs1, rm, rd, 0b1010011#7⟩
  | .fcvtWuS rd rs1 rm => ⟨0b1100000#7, 0b00001#5, rs1, rm, rd, 0b1010011#7⟩
  | .fcvtSW rd rs1 rm => ⟨0b1101000#7, 0b00000#5, rs1, rm, rd, 0b1010011#7⟩
  | .fcvtSWu rd rs1 rm => ⟨0b1101000#7, 0b00001#5, rs1, rm, rd, 0b1010011#7⟩
  | .fmvXS rd rs1 => ⟨0b1110000#7, 0b00000#5, rs1, 0b000#3, rd, 0b1010011#7⟩
  | .fclassS rd rs1 => ⟨0b1110000#7, 0b00000#5, rs1, 0b001#3, rd, 0b1010011#7⟩
  | .fmvSX rd rs1 => ⟨0b1111000#7, 0b00000#5, rs1, 0b000#3, rd, 0b1010011#7⟩
  | .fcvtLS rd rs1 rm => ⟨0b1100000#7, 0b00010#5, rs1, rm, rd, 0b1010011#7⟩
  | .fcvtLuS rd rs1 rm => ⟨0b1100000#7, 0b00011#5, rs1, rm, rd, 0b1010011#7⟩
  | .fcvtSL rd rs1 rm => ⟨0b1101000#7, 0b00010#5, rs1, rm, rd, 0b1010011#7⟩
  | .fcvtSLu rd rs1 rm => ⟨0b1101000#7, 0b00011#5, rs1, rm, rd, 0b1010011#7⟩
  | .fld rd rs1 imm => Fields.ofI imm rs1 0b011#3 rd 0b0000111#7
  | .fsd rs1 rs2 imm => Fields.ofS imm rs2 rs1 0b011#3 0b0100111#7
  | .fmaddD rd rs1 rs2 rs3 rm => ⟨rs3 ++ 0b01#2, rs2, rs1, rm, rd, 0b1000011#7⟩
  | .fmsubD rd rs1 rs2 rs3 rm => ⟨rs3 ++ 0b01#2, rs2, rs1, rm, rd, 0b1000111#7⟩
  | .fnmaddD rd rs1 rs2 rs3 rm => ⟨rs3 ++ 0b01#2, rs2, rs1, rm, rd, 0b1001111#7⟩
  | .fnmsubD rd rs1 rs2 rs3 rm => ⟨rs3 ++ 0b01#2, rs2, rs1, rm, rd, 0b1001011#7⟩
  | .faddD rd rs1 rs2 rm => ⟨0b0000001#7, rs2, rs1, rm, rd, 0b1010011#7⟩
  | .fsubD rd rs1 rs2 rm => ⟨0b0000101#7, rs2, rs1, rm, rd, 0b1010011#7⟩
  | .fmulD rd rs1 rs2 rm => ⟨0b0001001#7, rs2, rs1, rm, rd, 0b1010011#7⟩
  | .fdivD rd rs1 rs2 rm => ⟨0b0001101#7, rs2, rs1, rm, rd, 0b1010011#7⟩
  | .fsgnjD rd rs1 rs2 => ⟨0b0010001#7, rs2, rs1, 0b000#3, rd, 0b1010011#7⟩
  | .fsgnjnD rd rs1 rs2 => ⟨0b0010001#7, rs2, rs1, 0b001#3, rd, 0b1010011#7⟩
  | .fsgnjxD rd rs1 rs2 => ⟨0b0010001#7, rs2, rs1, 0b010#3, rd, 0b1010011#7⟩
  | .fminD rd rs1 rs2 => ⟨0b0010101#7, rs2, rs1, 0b000#3, rd, 0b1010011#7⟩
  | .fmaxD rd rs1 rs2 => ⟨0b0010101#7, rs2, rs1, 0b001#3, rd, 0b1010011#7⟩
  | .fcvtSD rd rs1 rm => ⟨0b0100000#7, 0b00001#5, rs1, rm, rd, 0b1010011#7⟩
  | .fcvtDS rd rs1 rm => ⟨0b0100001#7, 0b00000#5, rs1, rm, rd, 0b1010011#7⟩
  | .fsqrtD rd rs1 rm => ⟨0b0101101#7, 0b00000#5, rs1, rm, rd, 0b1010011#7⟩
  | .fleD rd rs1 rs2 => ⟨0b1010001#7, rs2, rs1, 0b000#3, rd, 0b1010011#7⟩
  | .fltD rd rs1 rs2 => ⟨0b1010001#7, rs2, rs1, 0b001#3, rd, 0b1010011#7⟩
  | .feqD rd rs1 rs2 => ⟨0b1010001#7, rs2, rs1, 0b010#3, rd, 0b1010011#7⟩
  | .fcvtWD rd rs1 rm => ⟨0b1100001#7, 0b00000#5, rs1, rm, rd, 0b1010011#7⟩
  | .fcvtWuD rd rs1 rm => ⟨0b1100001#7, 0b00001#5, rs1, rm, rd, 0b1010011#7⟩
  | .fcvtDW rd rs1 rm => ⟨0b1101001#7, 0b00000#5, rs1, rm, rd, 0b1010011#7⟩
  | .fcvtDWu rd rs1 rm => ⟨0b1101001#7, 0b00001#5, rs1, rm, rd, 0b1010011#7⟩
  | .fclassD rd rs1 => ⟨0b1110001#7, 0b00000#5, rs1, 0b001#3, rd, 0b1010011#7⟩
  | .fcvtLD rd rs1 rm => ⟨0b1100001#7, 0b00010#5, rs1, rm, rd, 0b1010011#7⟩
  | .fcvtLuD rd rs1 rm => ⟨0b1100001#7, 0b00011#5, rs1, rm, rd, 0b1010011#7⟩
  | .fmvXD rd rs1 => ⟨0b1110001#7, 0b00000#5, rs1, 0b000#3, rd, 0b1010011#7⟩
  | .fcvtDL rd rs1 rm => ⟨0b1101001#7, 0b00010#5, rs1, rm, rd, 0b1010011#7⟩
  | .fcvtDLu rd rs1 rm => ⟨0b1101001#7, 0b00011#5, rs1, rm, rd, 0b1010011#7⟩
  | .fmvDX rd rs1 => ⟨0b1111001#7, 0b00000#5, rs1, 0b000#3, rd, 0b1010011#7⟩
  | .frcsr rd => Fields.ofI 0x003#12 0#5 0b010#3 rd 0b1110011#7
  | .frrm rd => Fields.ofI 0x002#12 0#5 0b010#3 rd 0b1110011#7
  | .frflags rd => Fields.ofI 0x001#12 0#5 0b010#3 rd 0b1110011#7
  | .fscsr rd rs1 => Fields.ofI 0x003#12 rs1 0b001#3 rd 0b1110011#7
  | .fsrm rd rs1 => Fields.ofI 0x002#12 rs1 0b001#3 rd 0b1110011#7
  | .fsflags rd rs1 => Fields.ofI 0x001#12 rs1 0b001#3 rd 0b1110011#7
  | .fsrmi rd zimm => Fields.ofI 0x002#12 zimm 0b101#3 rd 0b1110011#7
  | .fsflagsi rd zimm => Fields.ofI 0x001#12 zimm 0b101#3 rd 0b1110011#7
  | .flq rd rs1 imm => Fields.ofI imm rs1 0b100#3 rd 0b0000111#7
  | .fsq rs1 rs2 imm => Fields.ofS imm rs2 rs1 0b100#3 0b0100111#7
  | .fmaddQ rd rs1 rs2 rs3 rm => ⟨rs3 ++ 0b11#2, rs2, rs1, rm, rd, 0b1000011#7⟩
  | .fmsubQ rd rs1 rs2 rs3 rm => ⟨rs3 ++ 0b11#2, rs2, rs1, rm, rd, 0b1000111#7⟩
  | .fnmaddQ rd rs1 rs2 rs3 rm => ⟨rs3 ++ 0b11#2, rs2, rs1, rm, rd, 0b1001111#7⟩
  | .fnmsubQ rd rs1 rs2 rs3 rm => ⟨rs3 ++ 0b11#2, rs2, rs1, rm, rd, 0b1001011#7⟩
  | .faddQ rd rs1 rs2 rm => ⟨0b0000011#7, rs2, rs1, rm, rd, 0b1010011#7⟩
  | .fsubQ rd rs1 rs2 rm => ⟨0b0000111#7, rs2, rs1, rm, rd, 0b1010011#7⟩
  | .fmulQ rd rs1 rs2 rm => ⟨0b0001011#7, rs2, rs1, rm, rd, 0b1010011#7⟩
  | .fdivQ rd rs1 rs2 rm => ⟨0b0001111#7, rs2, rs1, rm, rd, 0b1010011#7⟩
  | .fsgnjQ rd rs1 rs2 => ⟨0b0010011#7, rs2, rs1, 0b000#3, rd, 0b1010011#7⟩
  | .fsgnjnQ rd rs1 rs2 => ⟨0b0010011#7, rs2, rs1, 0b001#3, rd, 0b1010011#7⟩
  | .fsgnjxQ rd rs1 rs2 => ⟨0b0010011#7, rs2, rs1, 0b010#3, rd, 0b1010011#7⟩
  | .fminQ rd rs1 rs2 => ⟨0b0010111#7, rs2, rs1, 0b000#3, rd, 0b1010011#7⟩
  | .fmaxQ rd rs1 rs2 => ⟨0b0010111#7, rs2, rs1, 0b001#3, rd, 0b1010011#7⟩
  | .fcvtSQ rd rs1 rm => ⟨0b0100000#7, 0b00011#5, rs1, rm, rd, 0b1010011#7⟩
  | .fcvtQS rd rs1 rm => ⟨0b0100011#7, 0b00000#5, rs1, rm, rd, 0b1010011#7⟩
  | .fcvtDQ rd rs1 rm => ⟨0b0100001#7, 0b00011#5, rs1, rm, rd, 0b1010011#7⟩
  | .fcvtQD rd rs1 rm => ⟨0b0100011#7, 0b00001#5, rs1, rm, rd, 0b1010011#7⟩
  | .fsqrtQ rd rs1 rm => ⟨0b0101111#7, 0b00000#5, rs1, rm, rd, 0b1010011#7⟩
  | .fleQ rd rs1 rs2 => ⟨0b1010011#7, rs2, rs1, 0b000#3, rd, 0b1010011#7⟩
  | .fltQ rd rs1 rs2 => ⟨0b1010011#7, rs2, rs1, 0b001#3, rd, 0b1010011#7⟩
  | .feqQ rd rs1 rs2 => ⟨0b1010011#7, rs2, rs1, 0b010#3, rd, 0b1010011#7⟩
  | .fcvtWQ rd rs1 rm => ⟨0b1100011#7, 0b00000#5, rs1, rm, rd, 0b1010011#7⟩
  | .fcvtWuQ rd rs1 rm => ⟨0b1100011#7, 0b00001#5, rs1, rm, rd, 0b1010011#7⟩
  | .fcvtQW rd rs1 rm => ⟨0b1101011#7, 0b00000#5, rs1, rm, rd, 0b1010011#7⟩
  | .fcvtQWu rd rs1 rm => ⟨0b1101011#7, 0b00001#5, rs1, rm, rd, 0b1010011#7⟩
  | .fclassQ rd rs1 => ⟨0b1110011#7, 0b00000#5, rs1, 0b001#3, rd, 0b1010011#7⟩
  | .fcvtLQ rd rs1 rm => ⟨0b1100011#7, 0b00010#5, rs1, rm, rd, 0b1010011#7⟩
  | .fcvtLuQ rd rs1 rm => ⟨0b1100011#7, 0b00011#5, rs1, rm, rd, 0b1010011#7⟩
  | .fcvtQL rd rs1 rm => ⟨0b1101011#7, 0b00010#5, rs1, rm, rd, 0b1010011#7⟩
  | .fcvtQLu rd rs1 rm => ⟨0b1101011#7, 0b00011#5, rs1, rm, rd, 0b1010011#7⟩
  | .fmvXQ rd rs1 => ⟨0b1110011#7, 0b00000#5, rs1, 0b000#3, rd, 0b1010011#7⟩
  | .fmvQX rd rs1 => ⟨0b1111011#7, 0b00000#5, rs1, 0b000#3, rd, 0b1010011#7⟩

/-- The encoder: the word of an instruction (every bit of a well-formed one stands in it). -/
def encode (i : Instr) : InstrWord := (fieldsOf i).join

end Sys2Proof
end

