-- ==== Sys2Proof/Machine/Ops.lean ====
section
/-! DEFINITION. The named operations over registers, memory, exceptions and draws that the meanings are written with. -/

namespace Sys2Proof

/-- The address lies in the region. -/
def Region.contains (g : Region) (addr : Nat) : Bool := g.base ≤ addr && addr < g.base + g.size

/-- `XLEN` is 64. -/
def Config.is64 (c : Config) : Bool := c.xlen == .rv64

/-- Which rows are available (spec/00_scope.md R9). -/
def Config.has (c : Config) : InstrTable → Bool
  | .rv32i => true
  | .lwuRow => c.is64
  | .rv64i => c.is64
  | .rv32m => c.extM
  | .rv64m => c.extM && c.is64
  | .rv32a => c.extA
  | .rv64a => c.extA && c.is64
  | .rv32s => c.extSys
  | .counterHighRows => c.extSys && !c.is64
  | .rv32f => c.extF
  | .rv32fd => c.extF
  | .rv64f => c.extF && c.is64
  | .rv32d => c.extD
  | .rv64d => c.extD && c.is64
  | .rv32q => c.extQ
  | .rv64q => c.extQ && c.is64
  | .rv128q => false

end Sys2Proof

namespace Sys2Proof.Machine

/-- The cause code that names the outcome (spec/60_exceptions.md R440). -/
def Exception.code : Exception → Nat
  | .instructionAddressMisaligned => 0
  | .instructionAccessFault => 1
  | .illegalInstruction => 2
  | .breakpoint => 3
  | .loadAddressMisaligned => 4
  | .loadAccessFault => 5
  | .storeAmoAddressMisaligned => 6
  | .storeAmoAccessFault => 7
  | .environmentCall => 8

/-- What a meaning answers. -/
abbrev Result := Host.Outcome State Fault Refusal

/-! ## Registers -/

/-- `XLEN` of the run (spec/00_scope.md R8). -/
def State.xlen (s : State) : Nat := s.cfg.xlen.bits

/-- `FLEN` of the run (spec/00_scope.md R8). -/
def State.flen (s : State) : Nat := s.cfg.flen

/-- `x[r]`: `x0` reads as zero (spec/10_state.md R31). -/
def State.getX (s : State) (r : RegNum) : BitVec s.xlen :=
  if r = 0 then 0 else (s.x[r.toNat]'r.isLt).setWidth s.xlen

/-- `x[r] <- v`: a write to `x0` is discarded (spec/10_state.md R31). -/
def State.setX {n : Nat} (s : State) (r : RegNum) (v : BitVec n) : State :=
  if r = 0 then s else { s with x := s.x.set r.toNat ((v.setWidth s.xlen).setWidth 64) r.isLt }

/-- `pc` (spec/10_state.md R33). -/
def State.getPc (s : State) : BitVec s.xlen := s.pc.setWidth s.xlen

/-- `pc <- t` (spec/00_scope.md R11). -/
def State.setPc {n : Nat} (s : State) (t : BitVec n) : State := { s with pc := (t.setWidth s.xlen).setWidth 64 }

/-- The address of the next instruction in sequence, modulo `2^XLEN` (spec/10_state.md R34, R35); also the link value. -/
def State.nextPc (s : State) : BitVec s.xlen := s.getPc + 4

/-- `pc <- pc + 4`, the end of an instruction that does not assign `pc` (spec/10_state.md R34). -/
def State.advance (s : State) : State := s.setPc s.nextPc

/-- `f[r]`, `FLEN` bits (spec/10_state.md R36). -/
def State.getF (s : State) (r : RegNum) : BitVec s.flen := (s.f[r.toNat]'r.isLt).setWidth s.flen

/-- `f[r] <- v`, `FLEN` bits (spec/10_state.md R36). -/
def State.setF {n : Nat} (s : State) (r : RegNum) (v : BitVec n) : State :=
  { s with f := s.f.set r.toNat ((v.setWidth s.flen).setWidth 128) r.isLt }

/-- The state after a draw has been taken (spec/00_scope.md R11). -/
def State.drawn (s : State) : State := { s with draws := s.draws + 1 }

/-- The load reservation as an address of the run (spec/10_state.md R39). -/
def State.reservation (s : State) : Option (BitVec s.xlen) := s.lr.map (·.setWidth s.xlen)

/-- `lr <- addr` (spec/43_rv32a_rv64a.md R231). -/
def State.reserve {n : Nat} (s : State) (addr : BitVec n) : State :=
  { s with lr := some ((addr.setWidth s.xlen).setWidth 64) }

/-- `lr <- none` (spec/43_rv32a_rv64a.md R231). -/
def State.clearReservation (s : State) : State := { s with lr := none }

/-! ## Exceptions and refusals -/

/-- `raise E(info)`: the run ends in Trap(E, info, pc), and the state is that before the instruction
(spec/60_exceptions.md R442, R445, R446). There is no handler and nothing is saved. -/
def raise {n : Nat} (e : Exception) (info : BitVec n) (s : State) : Result :=
  .fault (.trap e (info.setWidth 64) (s.getPc.setWidth 64))

/-- The instruction is an illegal one: the recorded value is its word (spec/60_exceptions.md R440). -/
def illegal (i : Instr) (s : State) : Result := raise .illegalInstruction (encode i) s

/-- The row's table must be available, else the instruction is illegal (spec/00_scope.md R9, spec/30_encoding.md R120). -/
def requires (t : InstrTable) (i : Instr) (s : State) (k : Result) : Result :=
  if s.cfg.has t then k else illegal i s

/-- A return from a trap: what it restores is state the spec does not have, so it is refused (spec/60_exceptions.md R447). -/
def refuseTrapReturn (mnemonic : String) (s : State) : Result :=
  .refused (.trapReturnUndefined mnemonic (s.getPc.setWidth 64))

/-! ## Memory -/

/-- The byte at an address, if it has a known value. -/
def Memory.read : List Host.Cell → Nat → Option Byte
  | [], _ => none
  | (k, v) :: rest, a => if k = a then some v else Memory.read rest a

/-- The memory with one byte written; the canonical form is kept. -/
def Memory.write : List Host.Cell → Nat → Byte → List Host.Cell
  | [], a, b => [(a, b)]
  | (k, v) :: rest, a, b =>
    if a < k then (a, b) :: (k, v) :: rest
    else if a = k then (k, b) :: rest
    else (k, v) :: Memory.write rest a b

/-- The canonical form: addresses strictly rising. An unlisted address has no value, so no entry repeats what it reads as. -/
abbrev Memory.wf (m : List Host.Cell) : Prop := m.Pairwise (fun c d => c.1 < d.1)

/-- A set of addresses with one more in it; the set is a list of strictly rising addresses. -/
def AddrSet.insert : List Nat → Nat → List Nat
  | [], a => [a]
  | k :: rest, a => if a < k then a :: k :: rest else if a = k then k :: rest else k :: AddrSet.insert rest a

/-- The canonical form of a set of addresses. -/
abbrev AddrSet.wf (l : List Nat) : Prop := l.Pairwise (· < ·)

/-- The address of byte `k` of an access, modulo `2^XLEN` (spec/20_memory.md R60). -/
def byteAddr {n : Nat} (addr : BitVec n) (k : Nat) : Nat := (addr + BitVec.ofNat n k).toNat

/-- The byte lies in a region that has the permission (spec/20_memory.md R70). -/
def State.permits (s : State) (need : Region → Bool) (a : Nat) : Bool :=
  s.cfg.regions.any fun g => g.contains a && need g

/-- Every byte of an access lies in a region that has the permission (spec/20_memory.md R62, R63, R65). -/
def State.permitsAll (s : State) (need : Region → Bool) {n : Nat} (addr : BitVec n) (bytes : Nat) : Bool :=
  (List.range bytes).all fun k => s.permits need (byteAddr addr k)

/-- The byte at an address: its known value, or the free value of this draw (spec/10_state.md R45). -/
def State.byteAt (s : State) (a : Nat) : Byte := (Memory.read s.mem a).getD (Config.freeByte s.draws a)

/-- The value of some bytes, little-endian: byte `k` is bits [8k+7:8k] (spec/20_memory.md R61). -/
def littleEndian (byte : Nat → Byte) : Nat → Nat
  | 0 => 0
  | k + 1 => littleEndian byte k + (byte k).toNat * 2 ^ (8 * k)

/-- The first byte of an access that has no known value. -/
def State.firstUnknown (s : State) {n : Nat} (addr : BitVec n) (bytes : Nat) : Option Nat :=
  ((List.range bytes).map (byteAddr addr)).find? fun a => (Memory.read s.mem a).isNone

/-- The bytes of an access as one value, after its checks (spec/20_memory.md R62). A byte of no known value is refused or is
a draw, as `UNWRITTEN_REG` says (spec/10_state.md R45); the read changes no memory. -/
def readBytes {n : Nat} (addr : BitVec n) (bytes : Nat) (s : State) (k : BitVec (8 * bytes) → State → Result) : Result :=
  let v := BitVec.ofNat (8 * bytes) (littleEndian (fun j => s.byteAt (byteAddr addr j)) bytes)
  match s.firstUnknown addr bytes with
  | none => k v s
  | some a =>
    match s.cfg.unwritten with
    | .fault => .refused (.unwrittenByte a (s.getPc.setWidth 64))
    | .anyValue => k v s.drawn

/-- One byte stored, and remembered as written since the last `fence.i` (spec/20_memory.md R63, R75). -/
def State.writeByte (s : State) (a : Nat) (b : Byte) : State :=
  { s with mem := Memory.write s.mem a b, dirty := AddrSet.insert s.dirty a }

/-- The first `count` bytes of a value stored, byte `k` at `addr + k` (spec/20_memory.md R61, R63). -/
def State.writeBytes (s : State) {n w : Nat} (addr : BitVec n) (v : BitVec w) : (count : Nat) → State
  | 0 => s
  | k + 1 => (s.writeBytes addr v k).writeByte (byteAddr addr k) (v.extractLsb' (8 * k) 8)

/-- The kinds of data access, by the permissions they need and the exceptions they raise. -/
inductive Access where
  /-- A load or a floating-point load. -/
  | load
  /-- A store or a floating-point store. -/
  | store
  /-- `lr`. -/
  | reserved
  /-- `sc`. -/
  | conditional
  /-- An AMO. -/
  | amo
deriving DecidableEq, Repr

/-- The permissions an access needs of the region of each byte (spec/20_memory.md R70, spec/43_rv32a_rv64a.md R230). -/
def Access.need : Access → Region → Bool
  | .load, g => g.r
  | .store, g => g.w
  | .reserved, g => g.r && g.a
  | .conditional, g => g.w && g.a
  | .amo, g => g.r && g.w && g.a

/-- The exception of a misaligned access (spec/20_memory.md R62, R63). -/
def Access.misaligned : Access → Exception
  | .load | .reserved => .loadAddressMisaligned
  | .store | .conditional | .amo => .storeAmoAddressMisaligned

/-- The exception of an access without permission (spec/20_memory.md R62, R63). -/
def Access.denied : Access → Exception
  | .load | .reserved => .loadAccessFault
  | .store | .conditional | .amo => .storeAmoAccessFault

/-- The checks of an access, before any effect: alignment first, then permission (spec/20_memory.md R62, R63, R64,
spec/60_exceptions.md R444). -/
def checked (acc : Access) (bytes : Nat) {n : Nat} (addr : BitVec n) (s : State) (k : Result) : Result :=
  if addr.toNat % bytes ≠ 0 then raise acc.misaligned addr s
  else if !s.permitsAll acc.need addr bytes then raise acc.denied addr s
  else k

/-! ## Fetch -/

/-- Some byte of the fetch was written since the last `fence.i` (spec/20_memory.md R75). -/
def State.dirtyAt (s : State) {n : Nat} (addr : BitVec n) (bytes : Nat) : Bool :=
  (List.range bytes).any fun k => s.dirty.contains (byteAddr addr k)

/-- The fetch: access fault, then the refusal of a written byte, then the word (spec/20_memory.md R65, R75,
spec/60_exceptions.md R465; the order of the last two against a byte of no known value is log 13). -/
def fetch (s : State) (k : InstrWord → State → Result) : Result :=
  if !s.permitsAll (·.x) s.getPc 4 then raise .instructionAccessFault s.getPc s
  else if s.dirtyAt s.getPc 4 then .refused (.dirtyFetch (s.getPc.setWidth 64))
  else readBytes s.getPc 4 s k

/-! ## The ends of an instruction -/

/-- `x[rd] <- v ; pc <- pc + 4`. -/
def writeReg {n : Nat} (rd : RegNum) (v : BitVec n) (s : State) : Result := .next (s.setX rd v).advance

/-- `if t mod 4 != 0 then raise InstructionAddressMisaligned(t) else pc <- t`, with what the jump writes besides done last
(spec/40_rv32i.md R143, R144, R145). -/
def jumpTo {n : Nat} (t : BitVec n) (s : State) (effect : State → State) : Result :=
  if t.toNat % 4 ≠ 0 then raise .instructionAddressMisaligned t s else .next ((effect s).setPc t)

end Sys2Proof.Machine
end

