-- ==== Sys2Proof/Machine/Operands.lean ====
section
/-! DEFINITION. The operand forms: immediates, effective addresses, shift amounts, rounding modes, and floating-point
operands with their NaN-boxing. -/

namespace Sys2Proof.Machine

/-- The 12-bit immediate, sign-extended to `XLEN` bits (spec/30_encoding.md R100, R101). -/
def State.imm12 (s : State) (imm : BitVec 12) : BitVec s.xlen := imm.signExtend s.xlen

/-- The U-immediate: the field in bits [31:12], sign-extended to `XLEN` bits (spec/30_encoding.md R103). -/
def State.immU (s : State) (imm : BitVec 20) : BitVec s.xlen := (imm ++ 0#12).signExtend s.xlen

/-- The target `pc + imm` of a branch or a `jal`, modulo `2^XLEN` (spec/30_encoding.md R102, R104, spec/10_state.md R35). -/
def State.target {n : Nat} (s : State) (imm : BitVec n) : BitVec s.xlen := s.getPc + imm.signExtend s.xlen

/-- The effective address `x[rs1] + imm`, modulo `2^XLEN` (spec/20_memory.md R69). -/
def State.effAddr (s : State) (rs1 : RegNum) (imm : BitVec 12) : BitVec s.xlen := s.getX rs1 + s.imm12 imm

/-- The low 32 bits of a register, what a word instruction reads (spec/41_rv64i.md R190). -/
def State.getW (s : State) (r : RegNum) : BitVec 32 := (s.getX r).setWidth 32

/-- The shift amount in a register: its low 5 bits at `XLEN` = 32, its low 6 bits at `XLEN` = 64
(spec/40_rv32i.md R173). -/
def State.shiftAmount (s : State) (r : RegNum) : Nat := (s.getX r).toNat % s.xlen

/-- The shift amount of a word shift: the low 5 bits of a register (spec/41_rv64i.md R199). -/
def State.shiftAmountW (s : State) (r : RegNum) : Nat := (s.getX r).toNat % 32

/-- An immediate shift amount must be below `XLEN`: with `inst[25]` set the encoding is illegal at `XLEN` = 32
(spec/30_encoding.md R105). -/
def withShamt (i : Instr) (shamt : BitVec 6) (s : State) (k : Nat → Result) : Result :=
  if shamt.toNat < s.xlen then k shamt.toNat else illegal i s

/-- The rounding mode of an `rm` field: a static mode, or for 111 the mode in `frm`; otherwise the instruction is illegal
and has no effect (spec/45_rv32f_rv64f.md R294). -/
def State.roundMode (s : State) (rm : BitVec 3) : Option RoundMode :=
  if rm = 0b111#3 then RoundMode.ofCode s.frm else RoundMode.ofCode rm

/-- The instruction goes on with the mode its `rm` field names (spec/45_rv32f_rv64f.md R294). -/
def withMode (i : Instr) (rm : BitVec 3) (s : State) (k : RoundMode → Result) : Result :=
  match s.roundMode rm with
  | some mode => k mode
  | none => illegal i s

/-- A register's low bits as a datum of the format, whatever stands above them: what stores and moves take
(spec/45_rv32f_rv64f.md R305, R306). -/
def State.rawF (s : State) (fmt : Fmt) (r : RegNum) : fmt.Bits := (s.getF r).setWidth fmt.width

/-- Every bit of a register above the format's width is 1, or there is none (spec/45_rv32f_rv64f.md R292). -/
def State.isBoxed (s : State) (fmt : Fmt) (r : RegNum) : Bool :=
  (s.getF r).toNat / 2 ^ fmt.width = 2 ^ (s.flen - fmt.width) - 1

/-- `fS(i)`, `fD(i)`, `fQ(i)`: the NaN-boxing check of a computational operand (spec/45_rv32f_rv64f.md R292). -/
def State.readF (s : State) (fmt : Fmt) (r : RegNum) : fmt.Bits :=
  if s.isBoxed fmt r then s.rawF fmt r else fmt.canonicalNaN

/-- The pattern with all bits above its width 1 (spec/45_rv32f_rv64f.md R292). -/
def boxed {w : Nat} (v : BitVec w) : BitVec 128 := (BitVec.allOnes 128 <<< w) ||| v.setWidth 128

/-- `f[i] <-S v`, `<-D`, `<-Q`: NaN-boxed to `FLEN` bits (spec/45_rv32f_rv64f.md R292). -/
def State.writeF {w : Nat} (s : State) (r : RegNum) (v : BitVec w) : State := s.setF r (boxed v)

end Sys2Proof.Machine
end

