-- ==== Sys2Proof/Machine/Families.lean ====
section
/-! DEFINITION. The shared operations of the instruction families: loads and stores, atomics, CSR accesses, and
floating-point instructions. Each meaning is one call of these with its own operation. -/

namespace Sys2Proof.Machine

/-! ## Integer computation -/

/-- A word result: 32 bits, sign-extended to 64 (spec/41_rv64i.md R190). -/
def writeWord (rd : RegNum) (v : BitVec 32) (s : State) : Result := writeReg rd (v.signExtend s.xlen) s

/-- A comparison as a value: 1 or 0 (spec/00_scope.md R12). -/
def writeBool (rd : RegNum) (c : Bool) (s : State) : Result := writeReg rd ((BitVec.ofBool c).setWidth s.xlen) s

/-- A branch: the target is checked only when the branch is taken (spec/40_rv32i.md R145). -/
def branch (taken : Bool) (imm : BitVec 13) (s : State) : Result :=
  if taken then jumpTo (s.target imm) s id else .next s.advance

/-! ## Multiplication and division (spec/42_rv32m_rv64m.md R210) -/

/-- Bits [2n-1:n] of an exact product (spec/42_rv32m_rv64m.md R212). -/
def highHalf {n : Nat} (p : Int) : BitVec n := BitVec.ofInt n (p / 2 ^ n)

/-- Signed division, truncating toward zero; a zero divisor gives all ones; the overflow case gives the dividend. -/
def divSigned {n : Nat} (a b : BitVec n) : BitVec n :=
  if b = 0 then BitVec.allOnes n else BitVec.ofInt n (a.toInt.tdiv b.toInt)

/-- Unsigned division; a zero divisor gives all ones. -/
def divUnsigned {n : Nat} (a b : BitVec n) : BitVec n :=
  if b = 0 then BitVec.allOnes n else BitVec.ofNat n (a.toNat / b.toNat)

/-- The remainder of the truncating division, with the sign of the dividend; a zero divisor gives the dividend. -/
def remSigned {n : Nat} (a b : BitVec n) : BitVec n :=
  if b = 0 then a else BitVec.ofInt n (a.toInt.tmod b.toInt)

/-- The unsigned remainder; a zero divisor gives the dividend. -/
def remUnsigned {n : Nat} (a b : BitVec n) : BitVec n :=
  if b = 0 then a else BitVec.ofNat n (a.toNat % b.toNat)

/-! ## Loads and stores -/

/-- A load: check, read, extend to `XLEN`, write `x[rd]` (spec/40_rv32i.md R152). -/
def load (bytes : Nat) (signed : Bool) (rd rs1 : RegNum) (imm : BitVec 12) (s : State) : Result :=
  checked .load bytes (s.effAddr rs1 imm) s <|
    readBytes (s.effAddr rs1 imm) bytes s fun v t =>
      if signed then writeReg rd (v.signExtend s.xlen) t else writeReg rd (v.setWidth s.xlen) t

/-- A store of the low bytes of `x[rs2]` (spec/40_rv32i.md R152). -/
def store (bytes : Nat) (rs1 rs2 : RegNum) (imm : BitVec 12) (s : State) : Result :=
  checked .store bytes (s.effAddr rs1 imm) s <|
    .next (s.writeBytes (s.effAddr rs1 imm) (s.getX rs2) bytes).advance

/-- A floating-point load: the bits unchanged, NaN-boxed (spec/45_rv32f_rv64f.md R306). -/
def loadFloat (fmt : Fmt) (rd rs1 : RegNum) (imm : BitVec 12) (s : State) : Result :=
  checked .load (fmt.width / 8) (s.effAddr rs1 imm) s <|
    readBytes (s.effAddr rs1 imm) (fmt.width / 8) s fun v t => .next (t.writeF rd v).advance

/-- A floating-point store: the low bits as they are (spec/45_rv32f_rv64f.md R306). -/
def storeFloat (fmt : Fmt) (rs1 rs2 : RegNum) (imm : BitVec 12) (s : State) : Result :=
  checked .store (fmt.width / 8) (s.effAddr rs1 imm) s <|
    .next (s.writeBytes (s.effAddr rs1 imm) (s.rawF fmt rs2) (fmt.width / 8)).advance

/-! ## Atomics -/

/-- `lr`: the value sign-extended into `x[rd]`, the reservation set to the address (spec/43_rv32a_rv64a.md R231, R233). -/
def loadReserved (bytes : Nat) (rd rs1 : RegNum) (s : State) : Result :=
  checked .reserved bytes (s.getX rs1) s <|
    readBytes (s.getX rs1) bytes s fun v t => writeReg rd (v.signExtend s.xlen) (t.reserve (s.getX rs1))

/-- `sc`: after the address checks, the test of the reservation, and on a match a draw; the reservation is cleared in
either case, and `x[rd]` is 0 for success, 1 for failure (spec/43_rv32a_rv64a.md R231, R234). -/
def storeConditional (bytes : Nat) (rd rs1 rs2 : RegNum) (s : State) : Result :=
  checked .conditional bytes (s.getX rs1) s <|
    if s.reservation = some (s.getX rs1) then
      if Config.scSucceeds s.draws then
        writeReg rd (0 : BitVec s.xlen) (s.drawn.writeBytes (s.getX rs1) (s.getX rs2) bytes).clearReservation
      else writeReg rd (1 : BitVec s.xlen) s.drawn.clearReservation
    else writeReg rd (1 : BitVec s.xlen) s.clearReservation

/-- An AMO: the old value, sign-extended, into `x[rd]`, and `op` of the operand and the old value into memory
(spec/43_rv32a_rv64a.md R232). -/
def amo (bytes : Nat) (op : BitVec (8 * bytes) → BitVec (8 * bytes) → BitVec (8 * bytes)) (rd rs1 rs2 : RegNum)
    (s : State) : Result :=
  checked .amo bytes (s.getX rs1) s <|
    readBytes (s.getX rs1) bytes s fun old t =>
      writeReg rd (old.signExtend s.xlen)
        (t.writeBytes (s.getX rs1) (op ((s.getX rs2).setWidth (8 * bytes)) old) bytes)

/-- The lesser of two values read as signed (spec/43_rv32a_rv64a.md R240). -/
def minSigned {n : Nat} (a b : BitVec n) : BitVec n := if a.slt b then a else b

/-- The greater of two values read as signed (spec/43_rv32a_rv64a.md R241). -/
def maxSigned {n : Nat} (a b : BitVec n) : BitVec n := if a.slt b then b else a

/-- The lesser of two values read as unsigned (spec/43_rv32a_rv64a.md R242). -/
def minUnsigned {n : Nat} (a b : BitVec n) : BitVec n := if a.ult b then a else b

/-- The greater of two values read as unsigned (spec/43_rv32a_rv64a.md R243). -/
def maxUnsigned {n : Nat} (a b : BitVec n) : BitVec n := if a.ult b then b else a

/-! ## Control and status registers -/

/-- The registers of the CSR address space (spec/10_state.md R41). -/
inductive Csr where
  /-- `fflags`, 0x001. -/
  | fflags
  /-- `frm`, 0x002. -/
  | frm
  /-- `fcsr`, 0x003. -/
  | fcsr
  /-- `cycle`, `time`, `instret`, 0xC00 to 0xC02: the low `XLEN` bits of the counter. -/
  | counter (c : Counter)
  /-- `cycleh`, `timeh`, `instreth`, 0xC80 to 0xC82: bits [63:32] of the counter. -/
  | counterHigh (c : Counter)
deriving DecidableEq, Repr

/-- The CSR at an address, if it exists under the parameters (spec/10_state.md R41). -/
def csrAt (cfg : Config) (addr : BitVec 12) : Option Csr :=
  match addr with
  | 0x001#12 => if cfg.extF then some .fflags else none
  | 0x002#12 => if cfg.extF then some .frm else none
  | 0x003#12 => if cfg.extF then some .fcsr else none
  | 0xc00#12 => if cfg.extSys then some (.counter .cycle) else none
  | 0xc01#12 => if cfg.extSys then some (.counter .time) else none
  | 0xc02#12 => if cfg.extSys then some (.counter .instret) else none
  | 0xc80#12 => if cfg.extSys && !cfg.is64 then some (.counterHigh .cycle) else none
  | 0xc81#12 => if cfg.extSys && !cfg.is64 then some (.counterHigh .time) else none
  | 0xc82#12 => if cfg.extSys && !cfg.is64 then some (.counterHigh .instret) else none
  | _ => none

/-- The counters are read-only (spec/10_state.md R41). -/
def Csr.readOnly : Csr → Bool
  | .fflags | .frm | .fcsr => false
  | .counter _ | .counterHigh _ => true

/-- The value of a CSR, zero-extended; a counter's is the free value of this draw (spec/44_rv32s.md R270, R276). -/
def State.csrValue (s : State) : Csr → BitVec s.xlen
  | .fflags => s.fflags.setWidth s.xlen
  | .frm => s.frm.setWidth s.xlen
  | .fcsr => s.fcsr.setWidth s.xlen
  | .counter c => (Config.counter c s.draws).setWidth s.xlen
  | .counterHigh c => ((Config.counter c s.draws).extractLsb' 32 32).setWidth s.xlen

/-- The state after a CSR has been read: a counter read is a draw (spec/44_rv32s.md R276). -/
def State.csrRead (s : State) (c : Csr) : State := if c.readOnly then s.drawn else s

/-- A CSR written: only its writable bits are stored (spec/10_state.md R37, spec/44_rv32s.md R276). -/
def State.csrWrite {n : Nat} (s : State) (c : Csr) (v : BitVec n) : State :=
  match c with
  | .fflags => { s with fflags := v.setWidth 5 }
  | .frm => { s with frm := v.setWidth 3 }
  | .fcsr => { s with fflags := v.setWidth 5, frm := v.extractLsb' 5 3 }
  | .counter _ | .counterHigh _ => s

/-- One CSR instruction (spec/44_rv32s.md R276): the CSR must exist, and must not be read-only if it is written. The value
read is the one before the write. `reads` and `write` say whether the instruction reads and what it writes. -/
def csrAccess (i : Instr) (rd : RegNum) (addr : BitVec 12) (reads : Bool) (s : State)
    (write : Option (BitVec s.xlen → BitVec s.xlen)) : Result :=
  match csrAt s.cfg addr with
  | none => illegal i s
  | some c =>
    if c.readOnly && write.isSome then illegal i s
    else
      let old := s.csrValue c
      let t := if reads then s.csrRead c else s
      let t := match write with
        | some g => t.csrWrite c (g old)
        | none => t
      if reads then writeReg rd old t else .next t.advance

/-- `csrrw` and `csrrwi`: read unless `rd` is `x0`, always write (spec/44_rv32s.md R277, R280). -/
def csrSwap (i : Instr) (rd : RegNum) (addr : BitVec 12) (s : State) (v : BitVec s.xlen) : Result :=
  csrAccess i rd addr (rd ≠ 0) s (some fun _ => v)

/-- `csrrs` and `csrrsi`: always read, set bits unless the operand field is zero (spec/44_rv32s.md R278, R281). -/
def csrSet (i : Instr) (rd : RegNum) (addr : BitVec 12) (field : BitVec 5) (s : State) (v : BitVec s.xlen) : Result :=
  csrAccess i rd addr true s (if field = 0 then none else some fun old => old ||| v)

/-- `csrrc` and `csrrci`: always read, clear bits unless the operand field is zero (spec/44_rv32s.md R279, R282). -/
def csrClear (i : Instr) (rd : RegNum) (addr : BitVec 12) (field : BitVec 5) (s : State) (v : BitVec s.xlen) : Result :=
  csrAccess i rd addr true s (if field = 0 then none else some fun old => old &&& ~~~v)

/-! ## Floating point -/

/-- `f[rd]` written NaN-boxed and the flags accrued (spec/45_rv32f_rv64f.md R292, R293). -/
def writeFloat {fmt : Fmt} (rd : RegNum) (r : FloatResult fmt) (s : State) : Result :=
  .next ((s.writeF rd r.bits).accrue r.flags).advance

/-- An operation of one operand that rounds (spec/45_rv32f_rv64f.md R296). -/
def float1 (fmt : Fmt) (op : RoundMode → fmt.Bits → FloatResult fmt) (i : Instr) (rd rs1 : RegNum) (rm : BitVec 3)
    (s : State) : Result :=
  withMode i rm s fun mode => writeFloat rd (op mode (s.readF fmt rs1)) s

/-- An operation of two operands that rounds (spec/45_rv32f_rv64f.md R296). -/
def float2 (fmt : Fmt) (op : RoundMode → fmt.Bits → fmt.Bits → FloatResult fmt) (i : Instr) (rd rs1 rs2 : RegNum)
    (rm : BitVec 3) (s : State) : Result :=
  withMode i rm s fun mode => writeFloat rd (op mode (s.readF fmt rs1) (s.readF fmt rs2)) s

/-- A fused operation of three operands (spec/45_rv32f_rv64f.md R297). -/
def float3 (fmt : Fmt) (op : RoundMode → fmt.Bits → fmt.Bits → fmt.Bits → FloatResult fmt) (i : Instr)
    (rd rs1 rs2 rs3 : RegNum) (rm : BitVec 3) (s : State) : Result :=
  withMode i rm s fun mode => writeFloat rd (op mode (s.readF fmt rs1) (s.readF fmt rs2) (s.readF fmt rs3)) s

/-- A sign injection: bits only, no flags (spec/45_rv32f_rv64f.md R298). -/
def floatSign (fmt : Fmt) (op : fmt.Bits → fmt.Bits → fmt.Bits) (rd rs1 rs2 : RegNum) (s : State) : Result :=
  writeFloat rd (⟨op (s.readF fmt rs1) (s.readF fmt rs2), .none⟩ : FloatResult fmt) s

/-- `fmin` and `fmax` (spec/45_rv32f_rv64f.md R299): of opposite zeros, under `FMINMAX_2008`, the zero is a draw. -/
def floatMinMax (fmt : Fmt) (op : Bool → fmt.Bits → fmt.Bits → FloatResult fmt) (rd rs1 rs2 : RegNum) (s : State) :
    Result :=
  if s.cfg.fminmax2008 && fmt.oppositeZeros (s.readF fmt rs1) (s.readF fmt rs2) then
    writeFloat rd (⟨fmt.zero (Config.zeroIsNegative s.draws), .none⟩ : FloatResult fmt) s.drawn
  else writeFloat rd (op s.cfg.fminmax2008 (s.readF fmt rs1) (s.readF fmt rs2)) s

/-- A comparison into `x[rd]` (spec/45_rv32f_rv64f.md R301). -/
def floatCompare (fmt : Fmt) (op : fmt.Bits → fmt.Bits → CompareResult) (rd rs1 rs2 : RegNum) (s : State) : Result :=
  let r := op (s.readF fmt rs1) (s.readF fmt rs2)
  writeBool rd r.holds (s.accrue r.flags)

/-- A float converted to an integer: a 32-bit result is sign-extended, the unsigned one too
(spec/45_rv32f_rv64f.md R302). -/
def floatToInt (fmt : Fmt) (t : IntType) (i : Instr) (rd rs1 : RegNum) (rm : BitVec 3) (s : State) : Result :=
  withMode i rm s fun mode =>
    let r := fmt.toInt mode t (s.readF fmt rs1)
    writeReg rd ((BitVec.ofInt t.width r.value).signExtend s.xlen) (s.accrue r.flags)

/-- The integer a conversion reads from `x[rs1]` (spec/45_rv32f_rv64f.md R304). -/
def State.intOperand (s : State) (t : IntType) (rs1 : RegNum) : Int :=
  match t with
  | .w => (s.getW rs1).toInt
  | .wu => (s.getW rs1).toNat
  | .l => ((s.getX rs1).setWidth 64).toInt
  | .lu => ((s.getX rs1).setWidth 64).toNat

/-- An integer converted to a float (spec/45_rv32f_rv64f.md R304). -/
def intToFloat (fmt : Fmt) (t : IntType) (i : Instr) (rd rs1 : RegNum) (rm : BitVec 3) (s : State) : Result :=
  withMode i rm s fun mode => writeFloat rd (fmt.ofInt mode (s.intOperand t rs1)) s

/-- A float converted to another format (spec/45_rv32f_rv64f.md R304). -/
def floatToFloat (src dst : Fmt) (i : Instr) (rd rs1 : RegNum) (rm : BitVec 3) (s : State) : Result :=
  withMode i rm s fun mode => writeFloat rd (src.convert dst mode (s.readF src rs1)) s

/-- `fclass` into `x[rd]`, no flags (spec/45_rv32f_rv64f.md R303). -/
def floatClass (fmt : Fmt) (rd rs1 : RegNum) (s : State) : Result :=
  writeReg rd ((fmt.classify (s.readF fmt rs1)).setWidth s.xlen) s

/-- The low bits of a floating-point register, as they are, sign-extended into `x[rd]` (spec/45_rv32f_rv64f.md R305). -/
def moveToInt (fmt : Fmt) (rd rs1 : RegNum) (s : State) : Result :=
  writeReg rd ((s.rawF fmt rs1).signExtend s.xlen) s

/-- The low bits of an integer register into `f[rd]`, NaN-boxed (spec/45_rv32f_rv64f.md R305). -/
def moveToFloat (fmt : Fmt) (rd rs1 : RegNum) (s : State) : Result :=
  .next (s.writeF rd ((s.getX rs1).setWidth fmt.width)).advance

end Sys2Proof.Machine
end

