-- ==== Sys2Proof/Machine/Atomic.lean ====
section
/-! DEFINITION. The meanings of RV32A and RV64A (spec/43_rv32a_rv64a.md), one definition per row. -/

namespace Sys2Proof.Machine

/-- `lr.w`, rule R233. -/
def execLrW (rd rs1 : RegNum) (aq rl : Bool) (s : State) : Result :=
  requires .rv32a (.lrW rd rs1 aq rl) s <| loadReserved 4 rd rs1 s

/-- `sc.w`, rule R234. -/
def execScW (rd rs1 rs2 : RegNum) (aq rl : Bool) (s : State) : Result :=
  requires .rv32a (.scW rd rs1 rs2 aq rl) s <| storeConditional 4 rd rs1 rs2 s

/-- `amoswap.w`, rule R235. -/
def execAmoswapW (rd rs1 rs2 : RegNum) (aq rl : Bool) (s : State) : Result :=
  requires .rv32a (.amoswapW rd rs1 rs2 aq rl) s <| amo 4 (fun v _ => v) rd rs1 rs2 s

/-- `amoadd.w`, rule R236. -/
def execAmoaddW (rd rs1 rs2 : RegNum) (aq rl : Bool) (s : State) : Result :=
  requires .rv32a (.amoaddW rd rs1 rs2 aq rl) s <| amo 4 (· + ·) rd rs1 rs2 s

/-- `amoxor.w`, rule R237. -/
def execAmoxorW (rd rs1 rs2 : RegNum) (aq rl : Bool) (s : State) : Result :=
  requires .rv32a (.amoxorW rd rs1 rs2 aq rl) s <| amo 4 (· ^^^ ·) rd rs1 rs2 s

/-- `amoor.w`, rule R238. -/
def execAmoorW (rd rs1 rs2 : RegNum) (aq rl : Bool) (s : State) : Result :=
  requires .rv32a (.amoorW rd rs1 rs2 aq rl) s <| amo 4 (· ||| ·) rd rs1 rs2 s

/-- `amoand.w`, rule R239. -/
def execAmoandW (rd rs1 rs2 : RegNum) (aq rl : Bool) (s : State) : Result :=
  requires .rv32a (.amoandW rd rs1 rs2 aq rl) s <| amo 4 (· &&& ·) rd rs1 rs2 s

/-- `amomin.w`, rule R240. -/
def execAmominW (rd rs1 rs2 : RegNum) (aq rl : Bool) (s : State) : Result :=
  requires .rv32a (.amominW rd rs1 rs2 aq rl) s <| amo 4 minSigned rd rs1 rs2 s

/-- `amomax.w`, rule R241. -/
def execAmomaxW (rd rs1 rs2 : RegNum) (aq rl : Bool) (s : State) : Result :=
  requires .rv32a (.amomaxW rd rs1 rs2 aq rl) s <| amo 4 maxSigned rd rs1 rs2 s

/-- `amominu.w`, rule R242. -/
def execAmominuW (rd rs1 rs2 : RegNum) (aq rl : Bool) (s : State) : Result :=
  requires .rv32a (.amominuW rd rs1 rs2 aq rl) s <| amo 4 minUnsigned rd rs1 rs2 s

/-- `amomaxu.w`, rule R243. -/
def execAmomaxuW (rd rs1 rs2 : RegNum) (aq rl : Bool) (s : State) : Result :=
  requires .rv32a (.amomaxuW rd rs1 rs2 aq rl) s <| amo 4 maxUnsigned rd rs1 rs2 s

/-- `lr.d`, rule R244. -/
def execLrD (rd rs1 : RegNum) (aq rl : Bool) (s : State) : Result :=
  requires .rv64a (.lrD rd rs1 aq rl) s <| loadReserved 8 rd rs1 s

/-- `sc.d`, rule R245. -/
def execScD (rd rs1 rs2 : RegNum) (aq rl : Bool) (s : State) : Result :=
  requires .rv64a (.scD rd rs1 rs2 aq rl) s <| storeConditional 8 rd rs1 rs2 s

/-- `amoswap.d`, rule R246. -/
def execAmoswapD (rd rs1 rs2 : RegNum) (aq rl : Bool) (s : State) : Result :=
  requires .rv64a (.amoswapD rd rs1 rs2 aq rl) s <| amo 8 (fun v _ => v) rd rs1 rs2 s

/-- `amoadd.d`, rule R247. -/
def execAmoaddD (rd rs1 rs2 : RegNum) (aq rl : Bool) (s : State) : Result :=
  requires .rv64a (.amoaddD rd rs1 rs2 aq rl) s <| amo 8 (· + ·) rd rs1 rs2 s

/-- `amoxor.d`, rule R248. -/
def execAmoxorD (rd rs1 rs2 : RegNum) (aq rl : Bool) (s : State) : Result :=
  requires .rv64a (.amoxorD rd rs1 rs2 aq rl) s <| amo 8 (· ^^^ ·) rd rs1 rs2 s

/-- `amoor.d`, rule R249. -/
def execAmoorD (rd rs1 rs2 : RegNum) (aq rl : Bool) (s : State) : Result :=
  requires .rv64a (.amoorD rd rs1 rs2 aq rl) s <| amo 8 (· ||| ·) rd rs1 rs2 s

/-- `amoand.d`, rule R250. -/
def execAmoandD (rd rs1 rs2 : RegNum) (aq rl : Bool) (s : State) : Result :=
  requires .rv64a (.amoandD rd rs1 rs2 aq rl) s <| amo 8 (· &&& ·) rd rs1 rs2 s

/-- `amomin.d`, rule R251. -/
def execAmominD (rd rs1 rs2 : RegNum) (aq rl : Bool) (s : State) : Result :=
  requires .rv64a (.amominD rd rs1 rs2 aq rl) s <| amo 8 minSigned rd rs1 rs2 s

/-- `amomax.d`, rule R252. -/
def execAmomaxD (rd rs1 rs2 : RegNum) (aq rl : Bool) (s : State) : Result :=
  requires .rv64a (.amomaxD rd rs1 rs2 aq rl) s <| amo 8 maxSigned rd rs1 rs2 s

/-- `amominu.d`, rule R253. -/
def execAmominuD (rd rs1 rs2 : RegNum) (aq rl : Bool) (s : State) : Result :=
  requires .rv64a (.amominuD rd rs1 rs2 aq rl) s <| amo 8 minUnsigned rd rs1 rs2 s

/-- `amomaxu.d`, rule R254. -/
def execAmomaxuD (rd rs1 rs2 : RegNum) (aq rl : Bool) (s : State) : Result :=
  requires .rv64a (.amomaxuD rd rs1 rs2 aq rl) s <| amo 8 maxUnsigned rd rs1 rs2 s

end Sys2Proof.Machine
end

