-- ==== Sys2Proof/Machine/FloatCsr.lean ====
section
/-! DEFINITION. The meanings of RV32FD (spec/47_rv32fd.md), one definition per row. -/

namespace Sys2Proof.Machine

/-- `frcsr`, rule R391. -/
def execFrcsr (rd : RegNum) (s : State) : Result :=
  requires .rv32fd (.frcsr rd) s <| csrSet (.frcsr rd) rd 0x003 0 s (s.getX 0)

/-- `frrm`, rule R392. -/
def execFrrm (rd : RegNum) (s : State) : Result :=
  requires .rv32fd (.frrm rd) s <| csrSet (.frrm rd) rd 0x002 0 s (s.getX 0)

/-- `frflags`, rule R393. -/
def execFrflags (rd : RegNum) (s : State) : Result :=
  requires .rv32fd (.frflags rd) s <| csrSet (.frflags rd) rd 0x001 0 s (s.getX 0)

/-- `fscsr`, rule R394. -/
def execFscsr (rd rs1 : RegNum) (s : State) : Result :=
  requires .rv32fd (.fscsr rd rs1) s <| csrSwap (.fscsr rd rs1) rd 0x003 s (s.getX rs1)

/-- `fsrm`, rule R395. -/
def execFsrm (rd rs1 : RegNum) (s : State) : Result :=
  requires .rv32fd (.fsrm rd rs1) s <| csrSwap (.fsrm rd rs1) rd 0x002 s (s.getX rs1)

/-- `fsflags`, rule R396. -/
def execFsflags (rd rs1 : RegNum) (s : State) : Result :=
  requires .rv32fd (.fsflags rd rs1) s <| csrSwap (.fsflags rd rs1) rd 0x001 s (s.getX rs1)

/-- `fsrmi`, rule R397. -/
def execFsrmi (rd : RegNum) (zimm : BitVec 5) (s : State) : Result :=
  requires .rv32fd (.fsrmi rd zimm) s <| csrSwap (.fsrmi rd zimm) rd 0x002 s (zimm.setWidth s.xlen)

/-- `fsflagsi`, rule R398. -/
def execFsflagsi (rd : RegNum) (zimm : BitVec 5) (s : State) : Result :=
  requires .rv32fd (.fsflagsi rd zimm) s <| csrSwap (.fsflagsi rd zimm) rd 0x001 s (zimm.setWidth s.xlen)

end Sys2Proof.Machine
end

