-- ==== Sys2Proof/Machine/FloatDouble.lean ====
section
/-! DEFINITION. The meanings of RV32D and RV64D (spec/46_rv32d_rv64d.md), one definition per row. -/

namespace Sys2Proof.Machine

/-- `fld`, rule R351. -/
def execFld (rd rs1 : RegNum) (imm : BitVec 12) (s : State) : Result :=
  requires .rv32d (.fld rd rs1 imm) s <| loadFloat .d rd rs1 imm s

/-- `fsd`, rule R352. -/
def execFsd (rs1 rs2 : RegNum) (imm : BitVec 12) (s : State) : Result :=
  requires .rv32d (.fsd rs1 rs2 imm) s <| storeFloat .d rs1 rs2 imm s

/-- `fmadd.d`, rule R353. -/
def execFmaddD (rd rs1 rs2 rs3 : RegNum) (rm : BitVec 3) (s : State) : Result :=
  requires .rv32d (.fmaddD rd rs1 rs2 rs3 rm) s <|
    float3 .d (Fmt.d.fmadd) (.fmaddD rd rs1 rs2 rs3 rm) rd rs1 rs2 rs3 rm s

/-- `fmsub.d`, rule R354. -/
def execFmsubD (rd rs1 rs2 rs3 : RegNum) (rm : BitVec 3) (s : State) : Result :=
  requires .rv32d (.fmsubD rd rs1 rs2 rs3 rm) s <|
    float3 .d (Fmt.d.fmsub) (.fmsubD rd rs1 rs2 rs3 rm) rd rs1 rs2 rs3 rm s

/-- `fnmadd.d`, rule R355. -/
def execFnmaddD (rd rs1 rs2 rs3 : RegNum) (rm : BitVec 3) (s : State) : Result :=
  requires .rv32d (.fnmaddD rd rs1 rs2 rs3 rm) s <|
    float3 .d (Fmt.d.fnmadd) (.fnmaddD rd rs1 rs2 rs3 rm) rd rs1 rs2 rs3 rm s

/-- `fnmsub.d`, rule R356. -/
def execFnmsubD (rd rs1 rs2 rs3 : RegNum) (rm : BitVec 3) (s : State) : Result :=
  requires .rv32d (.fnmsubD rd rs1 rs2 rs3 rm) s <|
    float3 .d (Fmt.d.fnmsub) (.fnmsubD rd rs1 rs2 rs3 rm) rd rs1 rs2 rs3 rm s

/-- `fadd.d`, rule R357. -/
def execFaddD (rd rs1 rs2 : RegNum) (rm : BitVec 3) (s : State) : Result :=
  requires .rv32d (.faddD rd rs1 rs2 rm) s <| float2 .d (Fmt.d.add) (.faddD rd rs1 rs2 rm) rd rs1 rs2 rm s

/-- `fsub.d`, rule R358. -/
def execFsubD (rd rs1 rs2 : RegNum) (rm : BitVec 3) (s : State) : Result :=
  requires .rv32d (.fsubD rd rs1 rs2 rm) s <| float2 .d (Fmt.d.sub) (.fsubD rd rs1 rs2 rm) rd rs1 rs2 rm s

/-- `fmul.d`, rule R359. -/
def execFmulD (rd rs1 rs2 : RegNum) (rm : BitVec 3) (s : State) : Result :=
  requires .rv32d (.fmulD rd rs1 rs2 rm) s <| float2 .d (Fmt.d.mul) (.fmulD rd rs1 rs2 rm) rd rs1 rs2 rm s

/-- `fdiv.d`, rule R360. -/
def execFdivD (rd rs1 rs2 : RegNum) (rm : BitVec 3) (s : State) : Result :=
  requires .rv32d (.fdivD rd rs1 rs2 rm) s <| float2 .d (Fmt.d.div) (.fdivD rd rs1 rs2 rm) rd rs1 rs2 rm s

/-- `fsgnj.d`, rule R361. -/
def execFsgnjD (rd rs1 rs2 : RegNum) (s : State) : Result :=
  requires .rv32d (.fsgnjD rd rs1 rs2) s <| floatSign .d (Fmt.d.copySign) rd rs1 rs2 s

/-- `fsgnjn.d`, rule R362. -/
def execFsgnjnD (rd rs1 rs2 : RegNum) (s : State) : Result :=
  requires .rv32d (.fsgnjnD rd rs1 rs2) s <| floatSign .d (Fmt.d.copyNegatedSign) rd rs1 rs2 s

/-- `fsgnjx.d`, rule R363. -/
def execFsgnjxD (rd rs1 rs2 : RegNum) (s : State) : Result :=
  requires .rv32d (.fsgnjxD rd rs1 rs2) s <| floatSign .d (Fmt.d.xorSign) rd rs1 rs2 s

/-- `fmin.d`, rule R364. -/
def execFminD (rd rs1 rs2 : RegNum) (s : State) : Result :=
  requires .rv32d (.fminD rd rs1 rs2) s <| floatMinMax .d (Fmt.d.minimum) rd rs1 rs2 s

/-- `fmax.d`, rule R365. -/
def execFmaxD (rd rs1 rs2 : RegNum) (s : State) : Result :=
  requires .rv32d (.fmaxD rd rs1 rs2) s <| floatMinMax .d (Fmt.d.maximum) rd rs1 rs2 s

/-- `fcvt.s.d`, rule R366. -/
def execFcvtSD (rd rs1 : RegNum) (rm : BitVec 3) (s : State) : Result :=
  requires .rv32d (.fcvtSD rd rs1 rm) s <| floatToFloat .d .s (.fcvtSD rd rs1 rm) rd rs1 rm s

/-- `fcvt.d.s`, rule R367. -/
def execFcvtDS (rd rs1 : RegNum) (rm : BitVec 3) (s : State) : Result :=
  requires .rv32d (.fcvtDS rd rs1 rm) s <| floatToFloat .s .d (.fcvtDS rd rs1 rm) rd rs1 rm s

/-- `fsqrt.d`, rule R368. -/
def execFsqrtD (rd rs1 : RegNum) (rm : BitVec 3) (s : State) : Result :=
  requires .rv32d (.fsqrtD rd rs1 rm) s <| float1 .d (Fmt.d.sqrt) (.fsqrtD rd rs1 rm) rd rs1 rm s

/-- `fle.d`, rule R369. -/
def execFleD (rd rs1 rs2 : RegNum) (s : State) : Result :=
  requires .rv32d (.fleD rd rs1 rs2) s <| floatCompare .d (Fmt.d.le) rd rs1 rs2 s

/-- `flt.d`, rule R370. -/
def execFltD (rd rs1 rs2 : RegNum) (s : State) : Result :=
  requires .rv32d (.fltD rd rs1 rs2) s <| floatCompare .d (Fmt.d.lt) rd rs1 rs2 s

/-- `feq.d`, rule R371. -/
def execFeqD (rd rs1 rs2 : RegNum) (s : State) : Result :=
  requires .rv32d (.feqD rd rs1 rs2) s <| floatCompare .d (Fmt.d.eq) rd rs1 rs2 s

/-- `fcvt.w.d`, rule R372. -/
def execFcvtWD (rd rs1 : RegNum) (rm : BitVec 3) (s : State) : Result :=
  requires .rv32d (.fcvtWD rd rs1 rm) s <| floatToInt .d .w (.fcvtWD rd rs1 rm) rd rs1 rm s

/-- `fcvt.wu.d`, rule R373. -/
def execFcvtWuD (rd rs1 : RegNum) (rm : BitVec 3) (s : State) : Result :=
  requires .rv32d (.fcvtWuD rd rs1 rm) s <| floatToInt .d .wu (.fcvtWuD rd rs1 rm) rd rs1 rm s

/-- `fcvt.d.w`, rule R374. -/
def execFcvtDW (rd rs1 : RegNum) (rm : BitVec 3) (s : State) : Result :=
  requires .rv32d (.fcvtDW rd rs1 rm) s <| intToFloat .d .w (.fcvtDW rd rs1 rm) rd rs1 rm s

/-- `fcvt.d.wu`, rule R375. -/
def execFcvtDWu (rd rs1 : RegNum) (rm : BitVec 3) (s : State) : Result :=
  requires .rv32d (.fcvtDWu rd rs1 rm) s <| intToFloat .d .wu (.fcvtDWu rd rs1 rm) rd rs1 rm s

/-- `fclass.d`, rule R376. -/
def execFclassD (rd rs1 : RegNum) (s : State) : Result :=
  requires .rv32d (.fclassD rd rs1) s <| floatClass .d rd rs1 s

/-- `fcvt.l.d`, rule R377. -/
def execFcvtLD (rd rs1 : RegNum) (rm : BitVec 3) (s : State) : Result :=
  requires .rv64d (.fcvtLD rd rs1 rm) s <| floatToInt .d .l (.fcvtLD rd rs1 rm) rd rs1 rm s

/-- `fcvt.lu.d`, rule R378. -/
def execFcvtLuD (rd rs1 : RegNum) (rm : BitVec 3) (s : State) : Result :=
  requires .rv64d (.fcvtLuD rd rs1 rm) s <| floatToInt .d .lu (.fcvtLuD rd rs1 rm) rd rs1 rm s

/-- `fmv.x.d`, rule R379. -/
def execFmvXD (rd rs1 : RegNum) (s : State) : Result := requires .rv64d (.fmvXD rd rs1) s <| moveToInt .d rd rs1 s

/-- `fcvt.d.l`, rule R380. -/
def execFcvtDL (rd rs1 : RegNum) (rm : BitVec 3) (s : State) : Result :=
  requires .rv64d (.fcvtDL rd rs1 rm) s <| intToFloat .d .l (.fcvtDL rd rs1 rm) rd rs1 rm s

/-- `fcvt.d.lu`, rule R381. -/
def execFcvtDLu (rd rs1 : RegNum) (rm : BitVec 3) (s : State) : Result :=
  requires .rv64d (.fcvtDLu rd rs1 rm) s <| intToFloat .d .lu (.fcvtDLu rd rs1 rm) rd rs1 rm s

/-- `fmv.d.x`, rule R382. -/
def execFmvDX (rd rs1 : RegNum) (s : State) : Result := requires .rv64d (.fmvDX rd rs1) s <| moveToFloat .d rd rs1 s

end Sys2Proof.Machine
end

