-- ==== Sys2Proof/Machine/FloatQuad.lean ====
section
/-! DEFINITION. The meanings of RV32Q, RV64Q and RV128Q (spec/48_rv32q_rv64q_rv128q.md), one definition per row. -/

namespace Sys2Proof.Machine

/-- `flq`, rule R401. -/
def execFlq (rd rs1 : RegNum) (imm : BitVec 12) (s : State) : Result :=
  requires .rv32q (.flq rd rs1 imm) s <| loadFloat .q rd rs1 imm s

/-- `fsq`, rule R402. -/
def execFsq (rs1 rs2 : RegNum) (imm : BitVec 12) (s : State) : Result :=
  requires .rv32q (.fsq rs1 rs2 imm) s <| storeFloat .q rs1 rs2 imm s

/-- `fmadd.q`, rule R403. -/
def execFmaddQ (rd rs1 rs2 rs3 : RegNum) (rm : BitVec 3) (s : State) : Result :=
  requires .rv32q (.fmaddQ rd rs1 rs2 rs3 rm) s <|
    float3 .q (Fmt.q.fmadd) (.fmaddQ rd rs1 rs2 rs3 rm) rd rs1 rs2 rs3 rm s

/-- `fmsub.q`, rule R404. -/
def execFmsubQ (rd rs1 rs2 rs3 : RegNum) (rm : BitVec 3) (s : State) : Result :=
  requires .rv32q (.fmsubQ rd rs1 rs2 rs3 rm) s <|
    float3 .q (Fmt.q.fmsub) (.fmsubQ rd rs1 rs2 rs3 rm) rd rs1 rs2 rs3 rm s

/-- `fnmadd.q`, rule R405. -/
def execFnmaddQ (rd rs1 rs2 rs3 : RegNum) (rm : BitVec 3) (s : State) : Result :=
  requires .rv32q (.fnmaddQ rd rs1 rs2 rs3 rm) s <|
    float3 .q (Fmt.q.fnmadd) (.fnmaddQ rd rs1 rs2 rs3 rm) rd rs1 rs2 rs3 rm s

/-- `fnmsub.q`, rule R406. -/
def execFnmsubQ (rd rs1 rs2 rs3 : RegNum) (rm : BitVec 3) (s : State) : Result :=
  requires .rv32q (.fnmsubQ rd rs1 rs2 rs3 rm) s <|
    float3 .q (Fmt.q.fnmsub) (.fnmsubQ rd rs1 rs2 rs3 rm) rd rs1 rs2 rs3 rm s

/-- `fadd.q`, rule R407. -/
def execFaddQ (rd rs1 rs2 : RegNum) (rm : BitVec 3) (s : State) : Result :=
  requires .rv32q (.faddQ rd rs1 rs2 rm) s <| float2 .q (Fmt.q.add) (.faddQ rd rs1 rs2 rm) rd rs1 rs2 rm s

/-- `fsub.q`, rule R408. -/
def execFsubQ (rd rs1 rs2 : RegNum) (rm : BitVec 3) (s : State) : Result :=
  requires .rv32q (.fsubQ rd rs1 rs2 rm) s <| float2 .q (Fmt.q.sub) (.fsubQ rd rs1 rs2 rm) rd rs1 rs2 rm s

/-- `fmul.q`, rule R409. -/
def execFmulQ (rd rs1 rs2 : RegNum) (rm : BitVec 3) (s : State) : Result :=
  requires .rv32q (.fmulQ rd rs1 rs2 rm) s <| float2 .q (Fmt.q.mul) (.fmulQ rd rs1 rs2 rm) rd rs1 rs2 rm s

/-- `fdiv.q`, rule R410. -/
def execFdivQ (rd rs1 rs2 : RegNum) (rm : BitVec 3) (s : State) : Result :=
  requires .rv32q (.fdivQ rd rs1 rs2 rm) s <| float2 .q (Fmt.q.div) (.fdivQ rd rs1 rs2 rm) rd rs1 rs2 rm s

/-- `fsgnj.q`, rule R411. -/
def execFsgnjQ (rd rs1 rs2 : RegNum) (s : State) : Result :=
  requires .rv32q (.fsgnjQ rd rs1 rs2) s <| floatSign .q (Fmt.q.copySign) rd rs1 rs2 s

/-- `fsgnjn.q`, rule R412. -/
def execFsgnjnQ (rd rs1 rs2 : RegNum) (s : State) : Result :=
  requires .rv32q (.fsgnjnQ rd rs1 rs2) s <| floatSign .q (Fmt.q.copyNegatedSign) rd rs1 rs2 s

/-- `fsgnjx.q`, rule R413. -/
def execFsgnjxQ (rd rs1 rs2 : RegNum) (s : State) : Result :=
  requires .rv32q (.fsgnjxQ rd rs1 rs2) s <| floatSign .q (Fmt.q.xorSign) rd rs1 rs2 s

/-- `fmin.q`, rule R414. -/
def execFminQ (rd rs1 rs2 : RegNum) (s : State) : Result :=
  requires .rv32q (.fminQ rd rs1 rs2) s <| floatMinMax .q (Fmt.q.minimum) rd rs1 rs2 s

/-- `fmax.q`, rule R415. -/
def execFmaxQ (rd rs1 rs2 : RegNum) (s : State) : Result :=
  requires .rv32q (.fmaxQ rd rs1 rs2) s <| floatMinMax .q (Fmt.q.maximum) rd rs1 rs2 s

/-- `fcvt.s.q`, rule R416. -/
def execFcvtSQ (rd rs1 : RegNum) (rm : BitVec 3) (s : State) : Result :=
  requires .rv32q (.fcvtSQ rd rs1 rm) s <| floatToFloat .q .s (.fcvtSQ rd rs1 rm) rd rs1 rm s

/-- `fcvt.q.s`, rule R417. -/
def execFcvtQS (rd rs1 : RegNum) (rm : BitVec 3) (s : State) : Result :=
  requires .rv32q (.fcvtQS rd rs1 rm) s <| floatToFloat .s .q (.fcvtQS rd rs1 rm) rd rs1 rm s

/-- `fcvt.d.q`, rule R418. -/
def execFcvtDQ (rd rs1 : RegNum) (rm : BitVec 3) (s : State) : Result :=
  requires .rv32q (.fcvtDQ rd rs1 rm) s <| floatToFloat .q .d (.fcvtDQ rd rs1 rm) rd rs1 rm s

/-- `fcvt.q.d`, rule R419. -/
def execFcvtQD (rd rs1 : RegNum) (rm : BitVec 3) (s : State) : Result :=
  requires .rv32q (.fcvtQD rd rs1 rm) s <| floatToFloat .d .q (.fcvtQD rd rs1 rm) rd rs1 rm s

/-- `fsqrt.q`, rule R420. -/
def execFsqrtQ (rd rs1 : RegNum) (rm : BitVec 3) (s : State) : Result :=
  requires .rv32q (.fsqrtQ rd rs1 rm) s <| float1 .q (Fmt.q.sqrt) (.fsqrtQ rd rs1 rm) rd rs1 rm s

/-- `fle.q`, rule R421. -/
def execFleQ (rd rs1 rs2 : RegNum) (s : State) : Result :=
  requires .rv32q (.fleQ rd rs1 rs2) s <| floatCompare .q (Fmt.q.le) rd rs1 rs2 s

/-- `flt.q`, rule R422. -/
def execFltQ (rd rs1 rs2 : RegNum) (s : State) : Result :=
  requires .rv32q (.fltQ rd rs1 rs2) s <| floatCompare .q (Fmt.q.lt) rd rs1 rs2 s

/-- `feq.q`, rule R423. -/
def execFeqQ (rd rs1 rs2 : RegNum) (s : State) : Result :=
  requires .rv32q (.feqQ rd rs1 rs2) s <| floatCompare .q (Fmt.q.eq) rd rs1 rs2 s

/-- `fcvt.w.q`, rule R424. -/
def execFcvtWQ (rd rs1 : RegNum) (rm : BitVec 3) (s : State) : Result :=
  requires .rv32q (.fcvtWQ rd rs1 rm) s <| floatToInt .q .w (.fcvtWQ rd rs1 rm) rd rs1 rm s

/-- `fcvt.wu.q`, rule R425. -/
def execFcvtWuQ (rd rs1 : RegNum) (rm : BitVec 3) (s : State) : Result :=
  requires .rv32q (.fcvtWuQ rd rs1 rm) s <| floatToInt .q .wu (.fcvtWuQ rd rs1 rm) rd rs1 rm s

/-- `fcvt.q.w`, rule R426. -/
def execFcvtQW (rd rs1 : RegNum) (rm : BitVec 3) (s : State) : Result :=
  requires .rv32q (.fcvtQW rd rs1 rm) s <| intToFloat .q .w (.fcvtQW rd rs1 rm) rd rs1 rm s

/-- `fcvt.q.wu`, rule R427. -/
def execFcvtQWu (rd rs1 : RegNum) (rm : BitVec 3) (s : State) : Result :=
  requires .rv32q (.fcvtQWu rd rs1 rm) s <| intToFloat .q .wu (.fcvtQWu rd rs1 rm) rd rs1 rm s

/-- `fclass.q`, rule R428. -/
def execFclassQ (rd rs1 : RegNum) (s : State) : Result :=
  requires .rv32q (.fclassQ rd rs1) s <| floatClass .q rd rs1 s

/-- `fcvt.l.q`, rule R430. -/
def execFcvtLQ (rd rs1 : RegNum) (rm : BitVec 3) (s : State) : Result :=
  requires .rv64q (.fcvtLQ rd rs1 rm) s <| floatToInt .q .l (.fcvtLQ rd rs1 rm) rd rs1 rm s

/-- `fcvt.lu.q`, rule R431. -/
def execFcvtLuQ (rd rs1 : RegNum) (rm : BitVec 3) (s : State) : Result :=
  requires .rv64q (.fcvtLuQ rd rs1 rm) s <| floatToInt .q .lu (.fcvtLuQ rd rs1 rm) rd rs1 rm s

/-- `fcvt.q.l`, rule R432. -/
def execFcvtQL (rd rs1 : RegNum) (rm : BitVec 3) (s : State) : Result :=
  requires .rv64q (.fcvtQL rd rs1 rm) s <| intToFloat .q .l (.fcvtQL rd rs1 rm) rd rs1 rm s

/-- `fcvt.q.lu`, rule R433. -/
def execFcvtQLu (rd rs1 : RegNum) (rm : BitVec 3) (s : State) : Result :=
  requires .rv64q (.fcvtQLu rd rs1 rm) s <| intToFloat .q .lu (.fcvtQLu rd rs1 rm) rd rs1 rm s

/-- `fmv.x.q`, rule R436. -/
def execFmvXQ (rd rs1 : RegNum) (s : State) : Result := illegal (.fmvXQ rd rs1) s

/-- `fmv.q.x`, rule R437. -/
def execFmvQX (rd rs1 : RegNum) (s : State) : Result := illegal (.fmvQX rd rs1) s

end Sys2Proof.Machine
end

