-- ==== Sys2Proof/Machine/FloatSingle.lean ====
section
/-! DEFINITION. The meanings of RV32F and RV64F (spec/45_rv32f_rv64f.md), one definition per row. -/

namespace Sys2Proof.Machine

/-- `flw`, rule R310. -/
def execFlw (rd rs1 : RegNum) (imm : BitVec 12) (s : State) : Result :=
  requires .rv32f (.flw rd rs1 imm) s <| loadFloat .s rd rs1 imm s

/-- `fsw`, rule R311. -/
def execFsw (rs1 rs2 : RegNum) (imm : BitVec 12) (s : State) : Result :=
  requires .rv32f (.fsw rs1 rs2 imm) s <| storeFloat .s rs1 rs2 imm s

/-- `fmadd.s`, rule R312. -/
def execFmaddS (rd rs1 rs2 rs3 : RegNum) (rm : BitVec 3) (s : State) : Result :=
  requires .rv32f (.fmaddS rd rs1 rs2 rs3 rm) s <|
    float3 .s (Fmt.s.fmadd) (.fmaddS rd rs1 rs2 rs3 rm) rd rs1 rs2 rs3 rm s

/-- `fmsub.s`, rule R313. -/
def execFmsubS (rd rs1 rs2 rs3 : RegNum) (rm : BitVec 3) (s : State) : Result :=
  requires .rv32f (.fmsubS rd rs1 rs2 rs3 rm) s <|
    float3 .s (Fmt.s.fmsub) (.fmsubS rd rs1 rs2 rs3 rm) rd rs1 rs2 rs3 rm s

/-- `fnmadd.s`, rule R314. -/
def execFnmaddS (rd rs1 rs2 rs3 : RegNum) (rm : BitVec 3) (s : State) : Result :=
  requires .rv32f (.fnmaddS rd rs1 rs2 rs3 rm) s <|
    float3 .s (Fmt.s.fnmadd) (.fnmaddS rd rs1 rs2 rs3 rm) rd rs1 rs2 rs3 rm s

/-- `fnmsub.s`, rule R315. -/
def execFnmsubS (rd rs1 rs2 rs3 : RegNum) (rm : BitVec 3) (s : State) : Result :=
  requires .rv32f (.fnmsubS rd rs1 rs2 rs3 rm) s <|
    float3 .s (Fmt.s.fnmsub) (.fnmsubS rd rs1 rs2 rs3 rm) rd rs1 rs2 rs3 rm s

/-- `fadd.s`, rule R316. -/
def execFaddS (rd rs1 rs2 : RegNum) (rm : BitVec 3) (s : State) : Result :=
  requires .rv32f (.faddS rd rs1 rs2 rm) s <| float2 .s (Fmt.s.add) (.faddS rd rs1 rs2 rm) rd rs1 rs2 rm s

/-- `fsub.s`, rule R317. -/
def execFsubS (rd rs1 rs2 : RegNum) (rm : BitVec 3) (s : State) : Result :=
  requires .rv32f (.fsubS rd rs1 rs2 rm) s <| float2 .s (Fmt.s.sub) (.fsubS rd rs1 rs2 rm) rd rs1 rs2 rm s

/-- `fmul.s`, rule R318. -/
def execFmulS (rd rs1 rs2 : RegNum) (rm : BitVec 3) (s : State) : Result :=
  requires .rv32f (.fmulS rd rs1 rs2 rm) s <| float2 .s (Fmt.s.mul) (.fmulS rd rs1 rs2 rm) rd rs1 rs2 rm s

/-- `fdiv.s`, rule R319. -/
def execFdivS (rd rs1 rs2 : RegNum) (rm : BitVec 3) (s : State) : Result :=
  requires .rv32f (.fdivS rd rs1 rs2 rm) s <| float2 .s (Fmt.s.div) (.fdivS rd rs1 rs2 rm) rd rs1 rs2 rm s

/-- `fsgnj.s`, rule R320. -/
def execFsgnjS (rd rs1 rs2 : RegNum) (s : State) : Result :=
  requires .rv32f (.fsgnjS rd rs1 rs2) s <| floatSign .s (Fmt.s.copySign) rd rs1 rs2 s

/-- `fsgnjn.s`, rule R321. -/
def execFsgnjnS (rd rs1 rs2 : RegNum) (s : State) : Result :=
  requires .rv32f (.fsgnjnS rd rs1 rs2) s <| floatSign .s (Fmt.s.copyNegatedSign) rd rs1 rs2 s

/-- `fsgnjx.s`, rule R322. -/
def execFsgnjxS (rd rs1 rs2 : RegNum) (s : State) : Result :=
  requires .rv32f (.fsgnjxS rd rs1 rs2) s <| floatSign .s (Fmt.s.xorSign) rd rs1 rs2 s

/-- `fmin.s`, rule R323. -/
def execFminS (rd rs1 rs2 : RegNum) (s : State) : Result :=
  requires .rv32f (.fminS rd rs1 rs2) s <| floatMinMax .s (Fmt.s.minimum) rd rs1 rs2 s

/-- `fmax.s`, rule R324. -/
def execFmaxS (rd rs1 rs2 : RegNum) (s : State) : Result :=
  requires .rv32f (.fmaxS rd rs1 rs2) s <| floatMinMax .s (Fmt.s.maximum) rd rs1 rs2 s

/-- `fsqrt.s`, rule R325. -/
def execFsqrtS (rd rs1 : RegNum) (rm : BitVec 3) (s : State) : Result :=
  requires .rv32f (.fsqrtS rd rs1 rm) s <| float1 .s (Fmt.s.sqrt) (.fsqrtS rd rs1 rm) rd rs1 rm s

/-- `fle.s`, rule R326. -/
def execFleS (rd rs1 rs2 : RegNum) (s : State) : Result :=
  requires .rv32f (.fleS rd rs1 rs2) s <| floatCompare .s (Fmt.s.le) rd rs1 rs2 s

/-- `flt.s`, rule R327. -/
def execFltS (rd rs1 rs2 : RegNum) (s : State) : Result :=
  requires .rv32f (.fltS rd rs1 rs2) s <| floatCompare .s (Fmt.s.lt) rd rs1 rs2 s

/-- `feq.s`, rule R328. -/
def execFeqS (rd rs1 rs2 : RegNum) (s : State) : Result :=
  requires .rv32f (.feqS rd rs1 rs2) s <| floatCompare .s (Fmt.s.eq) rd rs1 rs2 s

/-- `fcvt.w.s`, rule R329. -/
def execFcvtWS (rd rs1 : RegNum) (rm : BitVec 3) (s : State) : Result :=
  requires .rv32f (.fcvtWS rd rs1 rm) s <| floatToInt .s .w (.fcvtWS rd rs1 rm) rd rs1 rm s

/-- `fcvt.wu.s`, rule R330. -/
def execFcvtWuS (rd rs1 : RegNum) (rm : BitVec 3) (s : State) : Result :=
  requires .rv32f (.fcvtWuS rd rs1 rm) s <| floatToInt .s .wu (.fcvtWuS rd rs1 rm) rd rs1 rm s

/-- `fcvt.s.w`, rule R331. -/
def execFcvtSW (rd rs1 : RegNum) (rm : BitVec 3) (s : State) : Result :=
  requires .rv32f (.fcvtSW rd rs1 rm) s <| intToFloat .s .w (.fcvtSW rd rs1 rm) rd rs1 rm s

/-- `fcvt.s.wu`, rule R332. -/
def execFcvtSWu (rd rs1 : RegNum) (rm : BitVec 3) (s : State) : Result :=
  requires .rv32f (.fcvtSWu rd rs1 rm) s <| intToFloat .s .wu (.fcvtSWu rd rs1 rm) rd rs1 rm s

/-- `fmv.x.s`, rule R333. -/
def execFmvXS (rd rs1 : RegNum) (s : State) : Result := requires .rv32f (.fmvXS rd rs1) s <| moveToInt .s rd rs1 s

/-- `fclass.s`, rule R334. -/
def execFclassS (rd rs1 : RegNum) (s : State) : Result :=
  requires .rv32f (.fclassS rd rs1) s <| floatClass .s rd rs1 s

/-- `fmv.s.x`, rule R335. -/
def execFmvSX (rd rs1 : RegNum) (s : State) : Result := requires .rv32f (.fmvSX rd rs1) s <| moveToFloat .s rd rs1 s

/-- `fcvt.l.s`, rule R336. -/
def execFcvtLS (rd rs1 : RegNum) (rm : BitVec 3) (s : State) : Result :=
  requires .rv64f (.fcvtLS rd rs1 rm) s <| floatToInt .s .l (.fcvtLS rd rs1 rm) rd rs1 rm s

/-- `fcvt.lu.s`, rule R337. -/
def execFcvtLuS (rd rs1 : RegNum) (rm : BitVec 3) (s : State) : Result :=
  requires .rv64f (.fcvtLuS rd rs1 rm) s <| floatToInt .s .lu (.fcvtLuS rd rs1 rm) rd rs1 rm s

/-- `fcvt.s.l`, rule R338. -/
def execFcvtSL (rd rs1 : RegNum) (rm : BitVec 3) (s : State) : Result :=
  requires .rv64f (.fcvtSL rd rs1 rm) s <| intToFloat .s .l (.fcvtSL rd rs1 rm) rd rs1 rm s

/-- `fcvt.s.lu`, rule R339. -/
def execFcvtSLu (rd rs1 : RegNum) (rm : BitVec 3) (s : State) : Result :=
  requires .rv64f (.fcvtSLu rd rs1 rm) s <| intToFloat .s .lu (.fcvtSLu rd rs1 rm) rd rs1 rm s

end Sys2Proof.Machine
end

