-- ==== Sys2Proof/Machine/MulDiv.lean ====
section
/-! DEFINITION. The meanings of RV32M and RV64M (spec/42_rv32m_rv64m.md), one definition per row. -/

namespace Sys2Proof.Machine

/-- `mul`, rule R211. -/
def execMul (rd rs1 rs2 : RegNum) (s : State) : Result :=
  requires .rv32m (.mul rd rs1 rs2) s <| writeReg rd (s.getX rs1 * s.getX rs2) s

/-- `mulh`, rule R212. -/
def execMulh (rd rs1 rs2 : RegNum) (s : State) : Result :=
  requires .rv32m (.mulh rd rs1 rs2) s <|
    writeReg rd (highHalf ((s.getX rs1).toInt * (s.getX rs2).toInt) : BitVec s.xlen) s

/-- `mulhsu`, rule R213. -/
def execMulhsu (rd rs1 rs2 : RegNum) (s : State) : Result :=
  requires .rv32m (.mulhsu rd rs1 rs2) s <|
    writeReg rd (highHalf ((s.getX rs1).toInt * (s.getX rs2).toNat) : BitVec s.xlen) s

/-- `mulhu`, rule R214. -/
def execMulhu (rd rs1 rs2 : RegNum) (s : State) : Result :=
  requires .rv32m (.mulhu rd rs1 rs2) s <|
    writeReg rd (highHalf ((s.getX rs1).toNat * (s.getX rs2).toNat) : BitVec s.xlen) s

/-- `div`, rule R215. -/
def execDiv (rd rs1 rs2 : RegNum) (s : State) : Result :=
  requires .rv32m (.div rd rs1 rs2) s <| writeReg rd (divSigned (s.getX rs1) (s.getX rs2)) s

/-- `divu`, rule R216. -/
def execDivu (rd rs1 rs2 : RegNum) (s : State) : Result :=
  requires .rv32m (.divu rd rs1 rs2) s <| writeReg rd (divUnsigned (s.getX rs1) (s.getX rs2)) s

/-- `rem`, rule R217. -/
def execRem (rd rs1 rs2 : RegNum) (s : State) : Result :=
  requires .rv32m (.rem rd rs1 rs2) s <| writeReg rd (remSigned (s.getX rs1) (s.getX rs2)) s

/-- `remu`, rule R218. -/
def execRemu (rd rs1 rs2 : RegNum) (s : State) : Result :=
  requires .rv32m (.remu rd rs1 rs2) s <| writeReg rd (remUnsigned (s.getX rs1) (s.getX rs2)) s

/-- `mulw`, rule R220. -/
def execMulw (rd rs1 rs2 : RegNum) (s : State) : Result :=
  requires .rv64m (.mulw rd rs1 rs2) s <| writeWord rd (s.getW rs1 * s.getW rs2) s

/-- `divw`, rule R221. -/
def execDivw (rd rs1 rs2 : RegNum) (s : State) : Result :=
  requires .rv64m (.divw rd rs1 rs2) s <| writeWord rd (divSigned (s.getW rs1) (s.getW rs2)) s

/-- `divuw`, rule R222. -/
def execDivuw (rd rs1 rs2 : RegNum) (s : State) : Result :=
  requires .rv64m (.divuw rd rs1 rs2) s <| writeWord rd (divUnsigned (s.getW rs1) (s.getW rs2)) s

/-- `remw`, rule R223. -/
def execRemw (rd rs1 rs2 : RegNum) (s : State) : Result :=
  requires .rv64m (.remw rd rs1 rs2) s <| writeWord rd (remSigned (s.getW rs1) (s.getW rs2)) s

/-- `remuw`, rule R224. -/
def execRemuw (rd rs1 rs2 : RegNum) (s : State) : Result :=
  requires .rv64m (.remuw rd rs1 rs2) s <| writeWord rd (remUnsigned (s.getW rs1) (s.getW rs2)) s

end Sys2Proof.Machine
end

