-- ==== Sys2Proof/Machine/Rv32i.lean ====
section
/-! DEFINITION. The meanings of RV32I (spec/40_rv32i.md), one definition per row. -/

namespace Sys2Proof.Machine

/-- `lui`, rule R141. -/
def execLui (rd : RegNum) (imm : BitVec 20) (s : State) : Result := writeReg rd (s.immU imm) s

/-- `auipc`, rule R142. -/
def execAuipc (rd : RegNum) (imm : BitVec 20) (s : State) : Result := writeReg rd (s.getPc + s.immU imm) s

/-- `jal`, rule R143. -/
def execJal (rd : RegNum) (imm : BitVec 21) (s : State) : Result := jumpTo (s.target imm) s (·.setX rd s.nextPc)

/-- `jalr`, rule R144. -/
def execJalr (rd rs1 : RegNum) (imm : BitVec 12) (s : State) : Result :=
  jumpTo (s.effAddr rs1 imm &&& ~~~1) s (·.setX rd s.nextPc)

/-- `beq`, rule R146. -/
def execBeq (rs1 rs2 : RegNum) (imm : BitVec 13) (s : State) : Result := branch (s.getX rs1 == s.getX rs2) imm s

/-- `bne`, rule R147. -/
def execBne (rs1 rs2 : RegNum) (imm : BitVec 13) (s : State) : Result := branch (s.getX rs1 != s.getX rs2) imm s

/-- `blt`, rule R148. -/
def execBlt (rs1 rs2 : RegNum) (imm : BitVec 13) (s : State) : Result := branch ((s.getX rs1).slt (s.getX rs2)) imm s

/-- `bge`, rule R149. -/
def execBge (rs1 rs2 : RegNum) (imm : BitVec 13) (s : State) : Result := branch (!(s.getX rs1).slt (s.getX rs2)) imm s

/-- `bltu`, rule R150. -/
def execBltu (rs1 rs2 : RegNum) (imm : BitVec 13) (s : State) : Result := branch ((s.getX rs1).ult (s.getX rs2)) imm s

/-- `bgeu`, rule R151. -/
def execBgeu (rs1 rs2 : RegNum) (imm : BitVec 13) (s : State) : Result :=
  branch (!(s.getX rs1).ult (s.getX rs2)) imm s

/-- `lb`, rule R153. -/
def execLb (rd rs1 : RegNum) (imm : BitVec 12) (s : State) : Result := load 1 true rd rs1 imm s

/-- `lh`, rule R154. -/
def execLh (rd rs1 : RegNum) (imm : BitVec 12) (s : State) : Result := load 2 true rd rs1 imm s

/-- `lw`, rule R155. -/
def execLw (rd rs1 : RegNum) (imm : BitVec 12) (s : State) : Result := load 4 true rd rs1 imm s

/-- `lbu`, rule R156. -/
def execLbu (rd rs1 : RegNum) (imm : BitVec 12) (s : State) : Result := load 1 false rd rs1 imm s

/-- `lhu`, rule R157. -/
def execLhu (rd rs1 : RegNum) (imm : BitVec 12) (s : State) : Result := load 2 false rd rs1 imm s

/-- `lwu`, rule R158. -/
def execLwu (rd rs1 : RegNum) (imm : BitVec 12) (s : State) : Result :=
  requires .lwuRow (.lwu rd rs1 imm) s <| load 4 false rd rs1 imm s

/-- `sb`, rule R159. -/
def execSb (rs1 rs2 : RegNum) (imm : BitVec 12) (s : State) : Result := store 1 rs1 rs2 imm s

/-- `sh`, rule R160. -/
def execSh (rs1 rs2 : RegNum) (imm : BitVec 12) (s : State) : Result := store 2 rs1 rs2 imm s

/-- `sw`, rule R161. -/
def execSw (rs1 rs2 : RegNum) (imm : BitVec 12) (s : State) : Result := store 4 rs1 rs2 imm s

/-- `addi`, rule R162. -/
def execAddi (rd rs1 : RegNum) (imm : BitVec 12) (s : State) : Result := writeReg rd (s.getX rs1 + s.imm12 imm) s

/-- `slti`, rule R163. -/
def execSlti (rd rs1 : RegNum) (imm : BitVec 12) (s : State) : Result :=
  writeBool rd ((s.getX rs1).slt (s.imm12 imm)) s

/-- `sltiu`, rule R164. -/
def execSltiu (rd rs1 : RegNum) (imm : BitVec 12) (s : State) : Result :=
  writeBool rd ((s.getX rs1).ult (s.imm12 imm)) s

/-- `xori`, rule R165. -/
def execXori (rd rs1 : RegNum) (imm : BitVec 12) (s : State) : Result := writeReg rd (s.getX rs1 ^^^ s.imm12 imm) s

/-- `ori`, rule R166. -/
def execOri (rd rs1 : RegNum) (imm : BitVec 12) (s : State) : Result := writeReg rd (s.getX rs1 ||| s.imm12 imm) s

/-- `andi`, rule R167. -/
def execAndi (rd rs1 : RegNum) (imm : BitVec 12) (s : State) : Result := writeReg rd (s.getX rs1 &&& s.imm12 imm) s

/-- `slli`, rule R168. -/
def execSlli (rd rs1 : RegNum) (shamt : BitVec 6) (s : State) : Result :=
  withShamt (.slli rd rs1 shamt) shamt s fun n => writeReg rd (s.getX rs1 <<< n) s

/-- `srli`, rule R169. -/
def execSrli (rd rs1 : RegNum) (shamt : BitVec 6) (s : State) : Result :=
  withShamt (.srli rd rs1 shamt) shamt s fun n => writeReg rd (s.getX rs1 >>> n) s

/-- `srai`, rule R170. -/
def execSrai (rd rs1 : RegNum) (shamt : BitVec 6) (s : State) : Result :=
  withShamt (.srai rd rs1 shamt) shamt s fun n => writeReg rd ((s.getX rs1).sshiftRight n) s

/-- `add`, rule R171. -/
def execAdd (rd rs1 rs2 : RegNum) (s : State) : Result := writeReg rd (s.getX rs1 + s.getX rs2) s

/-- `sub`, rule R172. -/
def execSub (rd rs1 rs2 : RegNum) (s : State) : Result := writeReg rd (s.getX rs1 - s.getX rs2) s

/-- `sll`, rule R173. -/
def execSll (rd rs1 rs2 : RegNum) (s : State) : Result := writeReg rd (s.getX rs1 <<< s.shiftAmount rs2) s

/-- `slt`, rule R174. -/
def execSlt (rd rs1 rs2 : RegNum) (s : State) : Result := writeBool rd ((s.getX rs1).slt (s.getX rs2)) s

/-- `sltu`, rule R175. -/
def execSltu (rd rs1 rs2 : RegNum) (s : State) : Result := writeBool rd ((s.getX rs1).ult (s.getX rs2)) s

/-- `xor`, rule R176. -/
def execXor (rd rs1 rs2 : RegNum) (s : State) : Result := writeReg rd (s.getX rs1 ^^^ s.getX rs2) s

/-- `srl`, rule R177. -/
def execSrl (rd rs1 rs2 : RegNum) (s : State) : Result := writeReg rd (s.getX rs1 >>> s.shiftAmount rs2) s

/-- `sra`, rule R178. -/
def execSra (rd rs1 rs2 : RegNum) (s : State) : Result := writeReg rd ((s.getX rs1).sshiftRight (s.shiftAmount rs2)) s

/-- `or`, rule R179. -/
def execOr (rd rs1 rs2 : RegNum) (s : State) : Result := writeReg rd (s.getX rs1 ||| s.getX rs2) s

/-- `and`, rule R180. -/
def execAnd (rd rs1 rs2 : RegNum) (s : State) : Result := writeReg rd (s.getX rs1 &&& s.getX rs2) s

/-- `fence`, rule R181. It orders nothing that one hart can see. -/
def execFence (_fm _pred _succ : BitVec 4) (_rs1 _rd : RegNum) (s : State) : Result := .next s.advance

/-- `fence.i`, rule R182. The set of written bytes is emptied. -/
def execFenceI (_imm : BitVec 12) (_rs1 _rd : RegNum) (s : State) : Result := .next { s with dirty := [] }.advance

end Sys2Proof.Machine
end

