-- ==== Sys2Proof/Machine/Rv64i.lean ====
section
/-! DEFINITION. The meanings of RV64I (spec/41_rv64i.md), one definition per row. -/

namespace Sys2Proof.Machine

/-- `ld`, rule R191. -/
def execLd (rd rs1 : RegNum) (imm : BitVec 12) (s : State) : Result :=
  requires .rv64i (.ld rd rs1 imm) s <| load 8 false rd rs1 imm s

/-- `sd`, rule R192. -/
def execSd (rs1 rs2 : RegNum) (imm : BitVec 12) (s : State) : Result :=
  requires .rv64i (.sd rs1 rs2 imm) s <| store 8 rs1 rs2 imm s

/-- `addiw`, rule R193. -/
def execAddiw (rd rs1 : RegNum) (imm : BitVec 12) (s : State) : Result :=
  requires .rv64i (.addiw rd rs1 imm) s <| writeWord rd (s.getW rs1 + imm.signExtend 32) s

/-- `slliw`, rule R194. -/
def execSlliw (rd rs1 : RegNum) (shamt : BitVec 5) (s : State) : Result :=
  requires .rv64i (.slliw rd rs1 shamt) s <| writeWord rd (s.getW rs1 <<< shamt.toNat) s

/-- `srliw`, rule R195. -/
def execSrliw (rd rs1 : RegNum) (shamt : BitVec 5) (s : State) : Result :=
  requires .rv64i (.srliw rd rs1 shamt) s <| writeWord rd (s.getW rs1 >>> shamt.toNat) s

/-- `sraiw`, rule R196. -/
def execSraiw (rd rs1 : RegNum) (shamt : BitVec 5) (s : State) : Result :=
  requires .rv64i (.sraiw rd rs1 shamt) s <| writeWord rd ((s.getW rs1).sshiftRight shamt.toNat) s

/-- `addw`, rule R197. -/
def execAddw (rd rs1 rs2 : RegNum) (s : State) : Result :=
  requires .rv64i (.addw rd rs1 rs2) s <| writeWord rd (s.getW rs1 + s.getW rs2) s

/-- `subw`, rule R198. -/
def execSubw (rd rs1 rs2 : RegNum) (s : State) : Result :=
  requires .rv64i (.subw rd rs1 rs2) s <| writeWord rd (s.getW rs1 - s.getW rs2) s

/-- `sllw`, rule R199. -/
def execSllw (rd rs1 rs2 : RegNum) (s : State) : Result :=
  requires .rv64i (.sllw rd rs1 rs2) s <| writeWord rd (s.getW rs1 <<< s.shiftAmountW rs2) s

/-- `srlw`, rule R200. -/
def execSrlw (rd rs1 rs2 : RegNum) (s : State) : Result :=
  requires .rv64i (.srlw rd rs1 rs2) s <| writeWord rd (s.getW rs1 >>> s.shiftAmountW rs2) s

/-- `sraw`, rule R201. -/
def execSraw (rd rs1 rs2 : RegNum) (s : State) : Result :=
  requires .rv64i (.sraw rd rs1 rs2) s <| writeWord rd ((s.getW rs1).sshiftRight (s.shiftAmountW rs2)) s

end Sys2Proof.Machine
end

