-- ==== Sys2Proof/Machine/System.lean ====
section
/-! DEFINITION. The meanings of RV32S (spec/44_rv32s.md), one definition per row. -/

namespace Sys2Proof.Machine

/-- `ecall`, rule R261. -/
def execEcall (s : State) : Result := requires .rv32s (.ecall) s <| raise .environmentCall s.getPc s

/-- `ebreak`, rule R262. -/
def execEbreak (s : State) : Result := requires .rv32s (.ebreak) s <| raise .breakpoint s.getPc s

/-- `uret`, rule R263. -/
def execUret (s : State) : Result := requires .rv32s (.uret) s <| refuseTrapReturn "uret" s

/-- `sret`, rule R264. -/
def execSret (s : State) : Result := requires .rv32s (.sret) s <| refuseTrapReturn "sret" s

/-- `hret`, rule R265. -/
def execHret (s : State) : Result := requires .rv32s (.hret) s <| refuseTrapReturn "hret" s

/-- `mret`, rule R266. -/
def execMret (s : State) : Result := requires .rv32s (.mret) s <| refuseTrapReturn "mret" s

/-- `dret`, rule R267. -/
def execDret (s : State) : Result :=
  requires .rv32s (.dret) s <| .refused (.debugReturnUndefined "dret" (s.getPc.setWidth 64))

/-- `sfence.vm`, rule R268. -/
def execSfenceVm (rs1 : RegNum) (s : State) : Result :=
  requires .rv32s (.sfenceVm rs1) s <| .refused (.translationFenceUndefined "sfence.vm" (s.getPc.setWidth 64))

/-- `wfi`, rule R269. -/
def execWfi (s : State) : Result :=
  requires .rv32s (.wfi) s <| .refused (.waitForInterruptUndefined "wfi" (s.getPc.setWidth 64))

/-- `rdcycle`, rule R270. -/
def execRdcycle (rd : RegNum) (s : State) : Result :=
  requires .rv32s (.rdcycle rd) s <| csrSet (.rdcycle rd) rd 0xc00 0 s (s.getX 0)

/-- `rdtime`, rule R271. -/
def execRdtime (rd : RegNum) (s : State) : Result :=
  requires .rv32s (.rdtime rd) s <| csrSet (.rdtime rd) rd 0xc01 0 s (s.getX 0)

/-- `rdinstret`, rule R272. -/
def execRdinstret (rd : RegNum) (s : State) : Result :=
  requires .rv32s (.rdinstret rd) s <| csrSet (.rdinstret rd) rd 0xc02 0 s (s.getX 0)

/-- `rdcycleh`, rule R273. -/
def execRdcycleh (rd : RegNum) (s : State) : Result :=
  requires .counterHighRows (.rdcycleh rd) s <| csrSet (.rdcycleh rd) rd 0xc80 0 s (s.getX 0)

/-- `rdtimeh`, rule R274. -/
def execRdtimeh (rd : RegNum) (s : State) : Result :=
  requires .counterHighRows (.rdtimeh rd) s <| csrSet (.rdtimeh rd) rd 0xc81 0 s (s.getX 0)

/-- `rdinstreth`, rule R275. -/
def execRdinstreth (rd : RegNum) (s : State) : Result :=
  requires .counterHighRows (.rdinstreth rd) s <| csrSet (.rdinstreth rd) rd 0xc82 0 s (s.getX 0)

/-- `csrrw`, rule R277. -/
def execCsrrw (rd : RegNum) (csr : BitVec 12) (rs1 : RegNum) (s : State) : Result :=
  requires .rv32s (.csrrw rd csr rs1) s <| csrSwap (.csrrw rd csr rs1) rd csr s (s.getX rs1)

/-- `csrrs`, rule R278. -/
def execCsrrs (rd : RegNum) (csr : BitVec 12) (rs1 : RegNum) (s : State) : Result :=
  requires .rv32s (.csrrs rd csr rs1) s <| csrSet (.csrrs rd csr rs1) rd csr rs1 s (s.getX rs1)

/-- `csrrc`, rule R279. -/
def execCsrrc (rd : RegNum) (csr : BitVec 12) (rs1 : RegNum) (s : State) : Result :=
  requires .rv32s (.csrrc rd csr rs1) s <| csrClear (.csrrc rd csr rs1) rd csr rs1 s (s.getX rs1)

/-- `csrrwi`, rule R280. -/
def execCsrrwi (rd : RegNum) (csr : BitVec 12) (zimm : BitVec 5) (s : State) : Result :=
  requires .rv32s (.csrrwi rd csr zimm) s <| csrSwap (.csrrwi rd csr zimm) rd csr s (zimm.setWidth s.xlen)

/-- `csrrsi`, rule R281. -/
def execCsrrsi (rd : RegNum) (csr : BitVec 12) (zimm : BitVec 5) (s : State) : Result :=
  requires .rv32s (.csrrsi rd csr zimm) s <| csrSet (.csrrsi rd csr zimm) rd csr zimm s (zimm.setWidth s.xlen)

/-- `csrrci`, rule R282. -/
def execCsrrci (rd : RegNum) (csr : BitVec 12) (zimm : BitVec 5) (s : State) : Result :=
  requires .rv32s (.csrrci rd csr zimm) s <| csrClear (.csrrci rd csr zimm) rd csr zimm s (zimm.setWidth s.xlen)

end Sys2Proof.Machine
end

