-- ==== Sys2Proof/Machine/Step.lean ====
section
/-! DEFINITION. One step of the hart (spec/60_exceptions.md R465), and the placing of an instruction where the next step
fetches. -/

namespace Sys2Proof.Machine

/-- One step: fetch at `pc`, decode, execute. A word that is no instruction raises IllegalInstruction with the word as the
recorded value (spec/30_encoding.md R120). -/
def step (s : State) : Host.Outcome State Fault Refusal :=
  fetch s fun w t =>
    match decode w with
    | .ok i => exec i t
    | .error _ => raise .illegalInstruction w t

/-- `s` with an instruction loaded at `pc`, as the environment loads a program (log 5): its four bytes are known and are not
among those written since the last `fence.i`. -/
def State.withFetchWord (s : State) (nbits w : Nat) : State :=
  let v := tableWord nbits w
  let addrOf (k : Nat) : Nat := byteAddr s.getPc k
  let put (m : List Host.Cell) (k : Nat) : List Host.Cell := Memory.write m (addrOf k) (byteOfWord v k)
  { s with
    mem := put (put (put (put s.mem 0) 1) 2) 3
    dirty := s.dirty.filter fun a => a ≠ addrOf 0 && a ≠ addrOf 1 && a ≠ addrOf 2 && a ≠ addrOf 3 }

end Sys2Proof.Machine
end

