-- ==== Sys2Proof/Safety.lean ====
section
/-! DEFINITION. The terms claims use: what a state shows of each register and byte, what a step leaves unchanged, the
invariant of the machine, and the tables of the spec that a claim about every instruction needs. -/

namespace Sys2Proof.Machine

/-! ## Numbers -/

/-- The integer a pattern of `n` bits stands for in two's complement (spec/00_scope.md R10). -/
def asSigned (n : Nat) (v : Nat) : Int := if 2 * v < 2 ^ n then v else (v : Int) - 2 ^ n

/-- An integer modulo `2^n`, the pattern of `n` bits it is stored as. -/
def wrap (n : Nat) (z : Int) : Nat := (z % 2 ^ n).toNat

/-! ## What a state shows -/

/-- `x[r]` as a natural number. -/
def State.xNat (s : State) (r : RegNum) : Nat := (s.getX r).toNat

/-- `x[r]` as a signed integer. -/
def State.xInt (s : State) (r : RegNum) : Int := asSigned s.xlen (s.xNat r)

/-- The low 32 bits of `x[r]` as a natural number. -/
def State.wNat (s : State) (r : RegNum) : Nat := s.xNat r % 2 ^ 32

/-- The low 32 bits of `x[r]` as a signed integer. -/
def State.wInt (s : State) (r : RegNum) : Int := asSigned 32 (s.wNat r)

/-- `pc` as a natural number. -/
def State.pcNat (s : State) : Nat := s.getPc.toNat

/-- `f[r]` as a natural number. -/
def State.fNat (s : State) (r : RegNum) : Nat := (s.getF r).toNat

/-- The address of the next instruction in sequence. -/
def State.seqPc (s : State) : Nat := (s.pcNat + 4) % 2 ^ s.xlen

/-- A number stored as an `XLEN`-bit pattern, as the trap outcome shows it. -/
def shown (v : Nat) : BitVec 64 := BitVec.ofNat 64 v

/-! ## What a step leaves unchanged -/

/-- Every integer register. -/
def SameX (s t : State) : Prop := ∀ r, t.xNat r = s.xNat r

/-- Every floating-point register. -/
def SameF (s t : State) : Prop := ∀ r, t.fNat r = s.fNat r

/-- Both parts of `fcsr`. -/
def SameFcsr (s t : State) : Prop := t.frm = s.frm ∧ t.fflags = s.fflags

/-- Every byte of memory, and the set of bytes written since the last `fence.i`. -/
def SameMem (s t : State) : Prop := (∀ a, Memory.read t.mem a = Memory.read s.mem a) ∧ t.dirty = s.dirty

/-- The reservation. -/
def SameLr (s t : State) : Prop := t.reservation.map BitVec.toNat = s.reservation.map BitVec.toNat

/-- The parameters and the count of draws. -/
def SameRun (s t : State) : Prop := t.cfg = s.cfg ∧ t.draws = s.draws

/-- `x[rd]` is `v`, but for `x0`, and every other integer register is unchanged. -/
def XIs (s t : State) (rd : RegNum) (v : Nat) : Prop := ∀ r, t.xNat r = if r = rd ∧ rd ≠ 0 then v else s.xNat r

/-- `f[rd]` is `v` and every other floating-point register is unchanged. -/
def FIs (s t : State) (rd : RegNum) (v : Nat) : Prop := ∀ r, t.fNat r = if r = rd then v else s.fNat r

/-- The bytes of `v`, little-endian, stand at the `count` addresses from `addr`, and are remembered as written; every other
byte of memory, and every other entry of that set, is unchanged. -/
def StoredAt (s t : State) (addr count v : Nat) : Prop :=
  (∀ a, Memory.read t.mem a =
    if ∃ k < count, a = (addr + k) % 2 ^ s.xlen
    then some (BitVec.ofNat 8 (v / 2 ^ (8 * ((a + 2 ^ s.xlen - addr) % 2 ^ s.xlen)))) else Memory.read s.mem a) ∧
  ∀ a, a ∈ t.dirty ↔ a ∈ s.dirty ∨ ∃ k < count, a = (addr + k) % 2 ^ s.xlen

/-! ## How an instruction ends -/

/-- The instruction completes: `x[rd]` becomes `v`, the next instruction follows, nothing else changes. -/
def CompletesX (i : Instr) (s : State) (rd : RegNum) (v : Nat) : Prop :=
  ∃ t, exec i s = .next t ∧ XIs s t rd v ∧ t.pcNat = s.seqPc ∧
    SameF s t ∧ SameFcsr s t ∧ SameMem s t ∧ SameLr s t ∧ SameRun s t

/-- The instruction completes: `x[rd]` becomes `v`, the flags are accrued, nothing else changes. -/
def CompletesXFlags (i : Instr) (s : State) (rd : RegNum) (v : Nat) (flags : FlagSet) : Prop :=
  ∃ t, exec i s = .next t ∧ XIs s t rd v ∧ t.pcNat = s.seqPc ∧ t.fflags = s.fflags ||| flags ∧ t.frm = s.frm ∧
    SameF s t ∧ SameMem s t ∧ SameLr s t ∧ SameRun s t

/-- A pattern of `w` bits as a register of `FLEN` bits holds it: every bit above it is 1 (spec/45_rv32f_rv64f.md R292). -/
def State.box (s : State) (w v : Nat) : Nat := 2 ^ s.flen - 2 ^ w + v

/-- The instruction completes: `f[rd]` becomes the result, NaN-boxed, the flags are accrued, nothing else changes. -/
def CompletesF {fmt : Fmt} (i : Instr) (s : State) (rd : RegNum) (r : FloatResult fmt) : Prop :=
  ∃ t, exec i s = .next t ∧ FIs s t rd (s.box fmt.width r.bits.toNat) ∧ t.pcNat = s.seqPc ∧
    t.fflags = s.fflags ||| r.flags ∧ t.frm = s.frm ∧ SameX s t ∧ SameMem s t ∧ SameLr s t ∧ SameRun s t

/-- The instruction completes: `f[rd]` becomes the pattern `v` of `w` bits, NaN-boxed, nothing else changes. -/
def CompletesFBits (i : Instr) (s : State) (rd : RegNum) (w v : Nat) : Prop :=
  ∃ t, exec i s = .next t ∧ FIs s t rd (s.box w v) ∧ t.pcNat = s.seqPc ∧
    SameX s t ∧ SameFcsr s t ∧ SameMem s t ∧ SameLr s t ∧ SameRun s t

/-- The instruction completes: the next one is at `target`, nothing else changes. -/
def CompletesPc (i : Instr) (s : State) (target : Nat) : Prop :=
  ∃ t, exec i s = .next t ∧ t.pcNat = target ∧
    SameX s t ∧ SameF s t ∧ SameFcsr s t ∧ SameMem s t ∧ SameLr s t ∧ SameRun s t

/-- The instruction completes: the next one is at `target`, `x[rd]` becomes the address after this one, nothing else
changes. -/
def CompletesLink (i : Instr) (s : State) (rd : RegNum) (target : Nat) : Prop :=
  ∃ t, exec i s = .next t ∧ t.pcNat = target ∧ XIs s t rd s.seqPc ∧
    SameF s t ∧ SameFcsr s t ∧ SameMem s t ∧ SameLr s t ∧ SameRun s t

/-- The instruction completes: the `count` bytes at `addr` become those of `v`, nothing else changes. -/
def CompletesStore (i : Instr) (s : State) (addr count v : Nat) : Prop :=
  ∃ t, exec i s = .next t ∧ StoredAt s t addr count v ∧ t.pcNat = s.seqPc ∧
    SameX s t ∧ SameF s t ∧ SameFcsr s t ∧ SameLr s t ∧ SameRun s t

/-- The instruction completes after one draw: `x[rd]` becomes `v`, nothing else changes. -/
def CompletesDraw (i : Instr) (s : State) (rd : RegNum) (v : Nat) : Prop :=
  ∃ t, exec i s = .next t ∧ XIs s t rd v ∧ t.pcNat = s.seqPc ∧ t.cfg = s.cfg ∧ t.draws = s.draws + 1 ∧
    SameF s t ∧ SameFcsr s t ∧ SameMem s t ∧ SameLr s t

/-- The value read through a view of `fcsr`: 0x001 `fflags`, 0x002 `frm`, 0x003 both (spec/10_state.md R37). -/
def State.fcsrView (s : State) (a : BitVec 12) : Nat :=
  if a = 0x001 then s.fflags.toNat else if a = 0x002 then s.frm.toNat else 2 ^ 5 * s.frm.toNat + s.fflags.toNat

/-- What a write of `v` through a view of `fcsr` leaves in its two parts (spec/10_state.md R37). -/
def FcsrWritten (s t : State) (a : BitVec 12) (v : Nat) : Prop :=
  if a = 0x001 then t.fflags.toNat = v % 2 ^ 5 ∧ t.frm = s.frm
  else if a = 0x002 then t.frm.toNat = v % 2 ^ 3 ∧ t.fflags = s.fflags
  else t.fflags.toNat = v % 2 ^ 5 ∧ t.frm.toNat = v / 2 ^ 5 % 2 ^ 3

/-- A CSR instruction on a view of `fcsr` completes: `x[rd]` becomes the old value, `v` is written if there is a write,
nothing else changes. -/
def CompletesCsr (i : Instr) (s : State) (rd : RegNum) (a : BitVec 12) (v : Option Nat) : Prop :=
  ∃ t, exec i s = .next t ∧ XIs s t rd (s.fcsrView a) ∧ (∀ n, v = some n → FcsrWritten s t a n) ∧
    (v = none → SameFcsr s t) ∧ t.pcNat = s.seqPc ∧ SameF s t ∧ SameMem s t ∧ SameLr s t ∧ SameRun s t

/-- The run ends in Trap(E, info, pc). -/
def Traps (i : Instr) (s : State) (e : Exception) (info : Nat) : Prop :=
  exec i s = .fault (.trap e (shown info) (shown s.pcNat))

/-- The instruction is an illegal one: the recorded value is its word. -/
def Illegal (i : Instr) (s : State) : Prop := Traps i s .illegalInstruction (encode i).toNat

/-- The word of the instruction matches its row of the opcode table (spec/30_encoding.md R130). -/
def Row (i : Instr) (matchWord mask : Nat) : Prop := encode i &&& BitVec.ofNat 32 mask = BitVec.ofNat 32 matchWord

/-! ## Memory accesses -/

/-- The effective address `x[rs1] + imm` as a number. -/
def State.addrNat (s : State) (rs1 : RegNum) (imm : BitVec 12) : Nat := (s.effAddr rs1 imm).toNat

/-- Every byte of an access lies in a region with the permission. -/
abbrev State.allowed (s : State) (acc : Access) (addr bytes : Nat) : Prop :=
  ∀ k < bytes, ∃ g ∈ s.cfg.regions,
    g.base ≤ (addr + k) % 2 ^ s.xlen ∧ (addr + k) % 2 ^ s.xlen < g.base + g.size ∧ acc.need g = true

/-- Byte `k` of an access has the known value `b k`. -/
abbrev State.holds (s : State) (addr bytes : Nat) (b : Nat → Byte) : Prop :=
  ∀ k < bytes, Memory.read s.mem ((addr + k) % 2 ^ s.xlen) = some (b k)

/-- Some byte of an access has no known value. -/
abbrev State.lacks (s : State) (addr bytes : Nat) : Prop :=
  ∃ k < bytes, Memory.read s.mem ((addr + k) % 2 ^ s.xlen) = none

/-- The access is turned away before any effect: misaligned first, then without permission
(spec/60_exceptions.md R444). -/
def TurnedAway (i : Instr) (s : State) (acc : Access) (addr bytes : Nat) : Prop :=
  (addr % bytes ≠ 0 → Traps i s acc.misaligned addr) ∧
  (addr % bytes = 0 → ¬ s.allowed acc addr bytes → Traps i s acc.denied addr)

/-- The value of known bytes, little-endian (spec/20_memory.md R61). -/
def bytesNat (b : Nat → Byte) : Nat → Nat
  | 0 => 0
  | k + 1 => bytesNat b k + (b k).toNat * 256 ^ k

/-- The laws of a load (spec/40_rv32i.md R152): turned away, or `x[rd]` becomes the extended value of the known bytes. -/
def LoadLaw (i : Instr) (s : State) (rd : RegNum) (addr bytes : Nat) (extend : Nat → Nat) : Prop :=
  TurnedAway i s .load addr bytes ∧
  ∀ b, addr % bytes = 0 → s.allowed .load addr bytes → s.holds addr bytes b →
    CompletesX i s rd (extend (bytesNat b bytes))

/-- Bytes that agree with every byte of known value of an access; the others are free (spec/10_state.md R45). -/
def State.agrees (s : State) (addr bytes : Nat) (b : Nat → Byte) : Prop :=
  ∀ k < bytes, ∀ v, Memory.read s.mem ((addr + k) % 2 ^ s.xlen) = some v → b k = v

/-- The laws of a read, past its checks, of bytes of which some have no known value (spec/10_state.md R45): it is refused by
the name of such a byte, or ends as it does for some bytes that agree with the known ones. -/
def UnknownReadLaw (s : State) (addr bytes : Nat) (r : Result) (ends : (Nat → Byte) → Prop) : Prop :=
  s.lacks addr bytes →
    (s.cfg.unwritten = .fault → ∃ k < bytes, Memory.read s.mem ((addr + k) % 2 ^ s.xlen) = none ∧
      r = .refused (.unwrittenByte ((addr + k) % 2 ^ s.xlen) (shown s.pcNat))) ∧
    (s.cfg.unwritten = .anyValue → ∃ b : Nat → Byte, s.agrees addr bytes b ∧ ends b)

/-- The laws of a load that reads a byte of no known value. -/
def UnknownLoadLaw (i : Instr) (s : State) (rd : RegNum) (addr bytes : Nat) (extend : Nat → Nat) : Prop :=
  addr % bytes = 0 → s.allowed .load addr bytes →
    UnknownReadLaw s addr bytes (exec i s) fun b => CompletesDraw i s rd (extend (bytesNat b bytes))

/-- The laws of a floating-point load that reads a byte of no known value. -/
def UnknownFloatLoadLaw (i : Instr) (s : State) (rd : RegNum) (addr bytes : Nat) : Prop :=
  addr % bytes = 0 → s.allowed .load addr bytes →
    UnknownReadLaw s addr bytes (exec i s) fun b =>
      ∃ t, exec i s = .next t ∧ FIs s t rd (s.box (8 * bytes) (bytesNat b bytes)) ∧ t.pcNat = s.seqPc ∧
        t.cfg = s.cfg ∧ t.draws = s.draws + 1 ∧ SameX s t ∧ SameFcsr s t ∧ SameMem s t ∧ SameLr s t

/-- The laws of `lr` that reads a byte of no known value. -/
def UnknownReservedLaw (i : Instr) (s : State) (rd rs1 : RegNum) (bytes : Nat) : Prop :=
  s.xNat rs1 % bytes = 0 → s.allowed .reserved (s.xNat rs1) bytes →
    UnknownReadLaw s (s.xNat rs1) bytes (exec i s) fun b =>
      ∃ t, exec i s = .next t ∧ XIs s t rd (wrap s.xlen (asSigned (8 * bytes) (bytesNat b bytes))) ∧
        t.reservation.map BitVec.toNat = some (s.xNat rs1) ∧ t.pcNat = s.seqPc ∧
        t.cfg = s.cfg ∧ t.draws = s.draws + 1 ∧ SameF s t ∧ SameFcsr s t ∧ SameMem s t

/-- The laws of an AMO that reads a byte of no known value. -/
def UnknownAmoLaw (i : Instr) (s : State) (rd rs1 rs2 : RegNum) (bytes : Nat) (op : Nat → Nat → Nat) : Prop :=
  s.xNat rs1 % bytes = 0 → s.allowed .amo (s.xNat rs1) bytes →
    UnknownReadLaw s (s.xNat rs1) bytes (exec i s) fun b =>
      ∃ t, exec i s = .next t ∧ XIs s t rd (wrap s.xlen (asSigned (8 * bytes) (bytesNat b bytes))) ∧
        StoredAt s t (s.xNat rs1) bytes (op (s.xNat rs2 % 2 ^ (8 * bytes)) (bytesNat b bytes)) ∧ t.pcNat = s.seqPc ∧
        t.cfg = s.cfg ∧ t.draws = s.draws + 1 ∧ SameF s t ∧ SameFcsr s t ∧ SameLr s t

/-- The laws of a floating-point load (spec/45_rv32f_rv64f.md R306). -/
def FloatLoadLaw (i : Instr) (s : State) (rd : RegNum) (addr bytes : Nat) : Prop :=
  TurnedAway i s .load addr bytes ∧
  ∀ b, addr % bytes = 0 → s.allowed .load addr bytes → s.holds addr bytes b →
    CompletesFBits i s rd (8 * bytes) (bytesNat b bytes)

/-- The laws of a store of the low bytes of `v` (spec/40_rv32i.md R152, spec/45_rv32f_rv64f.md R306). -/
def StoreLaw (i : Instr) (s : State) (addr bytes v : Nat) : Prop :=
  TurnedAway i s .store addr bytes ∧
  (addr % bytes = 0 → s.allowed .store addr bytes → CompletesStore i s addr bytes v)

/-- The laws of a branch (spec/40_rv32i.md R145). -/
def BranchLaw (i : Instr) (s : State) (imm : BitVec 13) (cond : Prop) : Prop :=
  (¬ cond → CompletesPc i s s.seqPc) ∧
  (cond → wrap s.xlen (s.pcNat + imm.toInt) % 4 = 0 → CompletesPc i s (wrap s.xlen (s.pcNat + imm.toInt))) ∧
  (cond → wrap s.xlen (s.pcNat + imm.toInt) % 4 ≠ 0 →
    Traps i s .instructionAddressMisaligned (wrap s.xlen (s.pcNat + imm.toInt)))

/-- The laws of a jump to `target` that links (spec/40_rv32i.md R143, R144). -/
def JumpLaw (i : Instr) (s : State) (rd : RegNum) (target : Nat) : Prop :=
  (target % 4 = 0 → CompletesLink i s rd target) ∧
  (target % 4 ≠ 0 → Traps i s .instructionAddressMisaligned target)

/-- The laws of `lr` (spec/43_rv32a_rv64a.md R231, R233). -/
def LoadReservedLaw (i : Instr) (s : State) (rd rs1 : RegNum) (bytes : Nat) : Prop :=
  TurnedAway i s .reserved (s.xNat rs1) bytes ∧
  ∀ b, s.xNat rs1 % bytes = 0 → s.allowed .reserved (s.xNat rs1) bytes → s.holds (s.xNat rs1) bytes b →
    ∃ t, exec i s = .next t ∧ XIs s t rd (wrap s.xlen (asSigned (8 * bytes) (bytesNat b bytes))) ∧
      t.reservation.map BitVec.toNat = some (s.xNat rs1) ∧ t.pcNat = s.seqPc ∧
      SameF s t ∧ SameFcsr s t ∧ SameMem s t ∧ SameRun s t

/-- What `sc` leaves besides memory and the draws: the code in `x[rd]` and no reservation. -/
def ConditionalEnd (s t : State) (rd : RegNum) (code : Nat) : Prop :=
  XIs s t rd code ∧ t.reservation = none ∧ t.pcNat = s.seqPc ∧ SameF s t ∧ SameFcsr s t ∧ t.cfg = s.cfg

/-- The laws of `sc` (spec/43_rv32a_rv64a.md R231, R234): without a matching reservation it fails with no draw; with one a
draw says whether it succeeds. -/
def StoreConditionalLaw (i : Instr) (s : State) (rd rs1 rs2 : RegNum) (bytes : Nat) : Prop :=
  TurnedAway i s .conditional (s.xNat rs1) bytes ∧
  (s.xNat rs1 % bytes = 0 → s.allowed .conditional (s.xNat rs1) bytes →
    (s.reservation.map BitVec.toNat ≠ some (s.xNat rs1) →
      ∃ t, exec i s = .next t ∧ ConditionalEnd s t rd 1 ∧ SameMem s t ∧ t.draws = s.draws) ∧
    (s.reservation.map BitVec.toNat = some (s.xNat rs1) →
      ∃ t, exec i s = .next t ∧ ConditionalEnd s t rd (if Config.scSucceeds s.draws then 0 else 1) ∧
        (if Config.scSucceeds s.draws then StoredAt s t (s.xNat rs1) bytes (s.xNat rs2) else SameMem s t) ∧
        t.draws = s.draws + 1))

/-- The laws of an AMO (spec/43_rv32a_rv64a.md R232): the old value, sign-extended, in `x[rd]`, and `op` of the low bytes of
`x[rs2]` and the old value in memory. -/
def AmoLaw (i : Instr) (s : State) (rd rs1 rs2 : RegNum) (bytes : Nat) (op : Nat → Nat → Nat) : Prop :=
  TurnedAway i s .amo (s.xNat rs1) bytes ∧
  ∀ b, s.xNat rs1 % bytes = 0 → s.allowed .amo (s.xNat rs1) bytes → s.holds (s.xNat rs1) bytes b →
    ∃ t, exec i s = .next t ∧ XIs s t rd (wrap s.xlen (asSigned (8 * bytes) (bytesNat b bytes))) ∧
      StoredAt s t (s.xNat rs1) bytes (op (s.xNat rs2 % 2 ^ (8 * bytes)) (bytesNat b bytes)) ∧ t.pcNat = s.seqPc ∧
      SameF s t ∧ SameFcsr s t ∧ SameLr s t ∧ SameRun s t

/-! ## Fetch -/

/-- Every byte of the fetch lies in a region with execute permission (spec/20_memory.md R65). -/
abbrev State.fetchable (s : State) : Prop :=
  ∀ k < 4, ∃ g ∈ s.cfg.regions,
    g.base ≤ (s.pcNat + k) % 2 ^ s.xlen ∧ (s.pcNat + k) % 2 ^ s.xlen < g.base + g.size ∧ g.x = true

/-- No byte of the fetch was written since the last `fence.i` (spec/20_memory.md R75). -/
abbrev State.fetchClean (s : State) : Prop := ∀ k < 4, (s.pcNat + k) % 2 ^ s.xlen ∉ s.dirty

/-- The CSR exists under the parameters (spec/10_state.md R41). -/
abbrev State.csrExists (s : State) (a : BitVec 12) : Prop :=
  (s.cfg.extF = true ∧ (a = 0x001 ∨ a = 0x002 ∨ a = 0x003)) ∨
  (s.cfg.extSys = true ∧ (a = 0xc00 ∨ a = 0xc01 ∨ a = 0xc02)) ∨
  (s.cfg.extSys = true ∧ s.xlen = 32 ∧ (a = 0xc80 ∨ a = 0xc81 ∨ a = 0xc82))

/-- The CSR address is that of a counter or of a high half, a read-only register (spec/10_state.md R41). -/
abbrev csrIsCounter (a : BitVec 12) : Prop :=
  a = 0xc00 ∨ a = 0xc01 ∨ a = 0xc02 ∨ a = 0xc80 ∨ a = 0xc81 ∨ a = 0xc82

/-- The value of a counter CSR at a draw: the low `XLEN` bits of the counter, or its bits [63:32]
(spec/10_state.md R41). -/
def State.counterView (s : State) (a : BitVec 12) : Nat :=
  if a = 0xc00 then (Config.counter .cycle s.draws).toNat % 2 ^ s.xlen
  else if a = 0xc01 then (Config.counter .time s.draws).toNat % 2 ^ s.xlen
  else if a = 0xc02 then (Config.counter .instret s.draws).toNat % 2 ^ s.xlen
  else if a = 0xc80 then (Config.counter .cycle s.draws).toNat / 2 ^ 32
  else if a = 0xc81 then (Config.counter .time s.draws).toNat / 2 ^ 32
  else (Config.counter .instret s.draws).toNat / 2 ^ 32

/-! ## Floating-point data -/

/-- The class, 0 to 9, of a pattern with `e` exponent bits and `f` fraction bits (spec/45_rv32f_rv64f.md R303). -/
def classOf (e f v : Nat) : Nat :=
  if v / 2 ^ f % 2 ^ e = 2 ^ e - 1 then
    if v % 2 ^ f = 0 then (if v / 2 ^ (e + f) = 1 then 0 else 7) else if v % 2 ^ f < 2 ^ (f - 1) then 8 else 9
  else if v / 2 ^ f % 2 ^ e = 0 then
    if v % 2 ^ f = 0 then (if v / 2 ^ (e + f) = 1 then 3 else 4) else (if v / 2 ^ (e + f) = 1 then 2 else 5)
  else if v / 2 ^ (e + f) = 1 then 1 else 6

/-- The number a finite datum stands for, as a rational; 0 for the others (spec/45_rv32f_rv64f.md R290). -/
def Datum.value : Datum → ℚ
  | .num neg m e => (if neg then -1 else 1) * m * 2 ^ e
  | .nan _ => 0
  | .inf _ => 0

/-- The datum is a finite number. -/
def Datum.isFinite : Datum → Bool
  | .num _ _ _ => true
  | .nan _ => false
  | .inf _ => false

/-- The place of a datum that is no NaN in the order of values: the infinities are the extremes, and the two zeros stand at
one place (spec/45_rv32f_rv64f.md R301). -/
def Datum.place : Datum → WithBot (WithTop ℚ)
  | .num neg m e => ((Datum.num neg m e).value : WithTop ℚ)
  | .inf neg => if neg then ⊥ else (⊤ : WithTop ℚ)
  | .nan _ => ⊥

/-- The pattern with its sign bit inverted, unary `-` of spec/00_scope.md R12. -/
def Fmt.negated (fmt : Fmt) (a : fmt.Bits) : fmt.Bits := a ^^^ BitVec.ofNat fmt.width (2 ^ (fmt.width - 1))

/-- The flags are exactly those whose condition holds (spec/45_rv32f_rv64f.md R293). -/
def FlagSet.are (flags : FlagSet) (nv dz of uf nx : Prop) : Prop :=
  (flags.getLsbD 4 = true ↔ nv) ∧ (flags.getLsbD 3 = true ↔ dz) ∧ (flags.getLsbD 2 = true ↔ of) ∧
  (flags.getLsbD 1 = true ↔ uf) ∧ (flags.getLsbD 0 = true ↔ nx)

/-- The result is the canonical NaN, with NV exactly if `nv` and no other flag (R295, R296). -/
def FloatResult.isNaN {fmt : Fmt} (r : FloatResult fmt) (nv : Prop) : Prop :=
  r.bits = fmt.canonicalNaN ∧ r.flags.are nv False False False False

/-- The result is the zero of a sign, with no flag (R296). -/
def FloatResult.isZero {fmt : Fmt} (r : FloatResult fmt) (neg : Bool) : Prop :=
  (fmt.datum r.bits).isFinite = true ∧ (fmt.datum r.bits).value = 0 ∧ fmt.sign r.bits = neg ∧ r.flags = .none

/-- The result is the infinity of a sign, with DZ exactly if `dz` and no other flag (R296). -/
def FloatResult.isInfinity {fmt : Fmt} (r : FloatResult fmt) (neg : Bool) (dz : Prop) : Prop :=
  fmt.datum r.bits = .inf neg ∧ r.flags.are False dz False False False

/-! ## Correct rounding -/

/-- The real numbers with a significand of the format's precision, the exponent of the unit in the last place being at least
`low`, or any integer for `none`: the numbers of the format with an unbounded exponent range, above only or on both sides
(spec/45_rv32f_rv64f.md R290, R293). -/
def Fmt.onGrid (fmt : Fmt) (low : Option Int) (v : ℝ) : Prop :=
  ∃ n e : Int, |n| < 2 ^ (fmt.fracBits + 1) ∧ (∀ l ∈ low, l ≤ e) ∧ v = n * 2 ^ e

/-- The significand of such a number, in its greatest length, is even. -/
def Fmt.evenOnGrid (fmt : Fmt) (low : Option Int) (v : ℝ) : Prop :=
  ∃ n e : Int, |n| < 2 ^ (fmt.fracBits + 1) ∧ (∀ l ∈ low, l ≤ e) ∧ v = n * 2 ^ e ∧ n % 2 = 0 ∧
    (2 ^ fmt.fracBits ≤ |n| ∨ low = some e)

/-- What rounding `x` to such numbers means in a mode (spec/45_rv32f_rv64f.md R294): to nearest with a tie to the even
significand or to the larger magnitude, or to the nearest on the side the mode names. -/
def IsRounding (fmt : Fmt) (low : Option Int) (mode : RoundMode) (x v : ℝ) : Prop :=
  fmt.onGrid low v ∧
  match mode with
  | .rne => ∀ u, fmt.onGrid low u → |v - x| ≤ |u - x| ∧ (|v - x| = |u - x| → u = v ∨ fmt.evenOnGrid low v)
  | .rmm => ∀ u, fmt.onGrid low u → |v - x| ≤ |u - x| ∧ (|v - x| = |u - x| → |u| ≤ |v|)
  | .rtz => 0 ≤ v * x ∧ |v| ≤ |x| ∧ ∀ u, fmt.onGrid low u → |u| ≤ |x| → |u| ≤ |v|
  | .rdn => v ≤ x ∧ ∀ u, fmt.onGrid low u → u ≤ x → u ≤ v
  | .rup => x ≤ v ∧ ∀ u, fmt.onGrid low u → x ≤ u → v ≤ u

/-- On overflow of `x` the mode delivers infinity, not the largest finite number (spec/45_rv32f_rv64f.md R296). -/
def RoundMode.overflowsToInfinity (mode : RoundMode) (x : ℝ) : Prop :=
  match mode with
  | .rne => True
  | .rmm => True
  | .rtz => False
  | .rdn => x < 0
  | .rup => 0 < x

/-- The result is `x`, which is not zero, rounded once to the format, with its flags (spec/45_rv32f_rv64f.md R293, R296).
`v` is `x` rounded as if the exponent range had no upper bound. If `v` is within the range it is delivered, with the sign of
`x`; NX says that it differs from `x`, and UF that besides `x` rounded with no lower bound either is below the least normal
number. If not, infinity or the largest finite number is delivered, with OF and NX. -/
def Delivers {fmt : Fmt} (mode : RoundMode) (x : ℝ) (r : FloatResult fmt) : Prop :=
  (fmt.sign r.bits = true ↔ x < 0) ∧
  ∃ v, IsRounding fmt (some fmt.quantumMin) mode x v ∧
    (|v| < 2 ^ (fmt.bias + 1) → (fmt.datum r.bits).isFinite = true ∧ ((fmt.datum r.bits).value : ℝ) = v ∧
      r.flags.are False False False (v ≠ x ∧ ∃ w, IsRounding fmt none mode x w ∧ |w| < 2 ^ fmt.emin) (v ≠ x)) ∧
    (2 ^ (fmt.bias + 1) ≤ |v| → r.flags.are False False True False True ∧
      (mode.overflowsToInfinity x → ∃ neg, fmt.datum r.bits = .inf neg) ∧
      (¬ mode.overflowsToInfinity x → (fmt.datum r.bits).isFinite = true ∧
        |((fmt.datum r.bits).value : ℝ)| = (2 ^ (fmt.fracBits + 1) - 1) * 2 ^ ((fmt.bias : Int) - fmt.fracBits)))

/-! ## The invariant -/

/-- What every step keeps: memory and the set of written bytes stand in their canonical form, `pc` is a multiple of 4
(spec/10_state.md R33), the entry of `x0` is zero (R31), and every register fits the width the parameters give it. -/
abbrev State.Inv (s : State) : Prop :=
  Memory.wf s.mem ∧ AddrSet.wf s.dirty ∧ s.pc.toNat % 4 = 0 ∧ s.pc.toNat < 2 ^ s.xlen ∧
  s.x[0].toNat = 0 ∧ (∀ r : Fin 32, s.x[r].toNat < 2 ^ s.xlen) ∧ (∀ r : Fin 32, s.f[r].toNat < 2 ^ s.flen) ∧
  (∀ a ∈ s.lr, a.toNat < 2 ^ s.xlen) ∧ (∀ c ∈ s.mem, c.1 < 2 ^ s.xlen) ∧ ∀ a ∈ s.dirty, a < 2 ^ s.xlen

end Sys2Proof.Machine

namespace Sys2Proof

open Machine

/-! ## Tables over every instruction -/

/-- The table of the source that an instruction is a row of (spec/00_scope.md R9). -/
def Instr.tableOf : Instr → InstrTable
  | .lui _ _ => .rv32i
  | .auipc _ _ => .rv32i
  | .jal _ _ => .rv32i
  | .jalr _ _ _ => .rv32i
  | .beq _ _ _ => .rv32i
  | .bne _ _ _ => .rv32i
  | .blt _ _ _ => .rv32i
  | .bge _ _ _ => .rv32i
  | .bltu _ _ _ => .rv32i
  | .bgeu _ _ _ => .rv32i
  | .lb _ _ _ => .rv32i
  | .lh _ _ _ => .rv32i
  | .lw _ _ _ => .rv32i
  | .lbu _ _ _ => .rv32i
  | .lhu _ _ _ => .rv32i
  | .lwu _ _ _ => .lwuRow
  | .sb _ _ _ => .rv32i
  | .sh _ _ _ => .rv32i
  | .sw _ _ _ => .rv32i
  | .addi _ _ _ => .rv32i
  | .slti _ _ _ => .rv32i
  | .sltiu _ _ _ => .rv32i
  | .xori _ _ _ => .rv32i
  | .ori _ _ _ => .rv32i
  | .andi _ _ _ => .rv32i
  | .slli _ _ _ => .rv32i
  | .srli _ _ _ => .rv32i
  | .srai _ _ _ => .rv32i
  | .add _ _ _ => .rv32i
  | .sub _ _ _ => .rv32i
  | .sll _ _ _ => .rv32i
  | .slt _ _ _ => .rv32i
  | .sltu _ _ _ => .rv32i
  | .xor _ _ _ => .rv32i
  | .srl _ _ _ => .rv32i
  | .sra _ _ _ => .rv32i
  | .or _ _ _ => .rv32i
  | .and _ _ _ => .rv32i
  | .fence _ _ _ _ _ => .rv32i
  | .fenceI _ _ _ => .rv32i
  | .ld _ _ _ => .rv64i
  | .sd _ _ _ => .rv64i
  | .addiw _ _ _ => .rv64i
  | .slliw _ _ _ => .rv64i
  | .srliw _ _ _ => .rv64i
  | .sraiw _ _ _ => .rv64i
  | .addw _ _ _ => .rv64i
  | .subw _ _ _ => .rv64i
  | .sllw _ _ _ => .rv64i
  | .srlw _ _ _ => .rv64i
  | .sraw _ _ _ => .rv64i
  | .mul _ _ _ => .rv32m
  | .mulh _ _ _ => .rv32m
  | .mulhsu _ _ _ => .rv32m
  | .mulhu _ _ _ => .rv32m
  | .div _ _ _ => .rv32m
  | .divu _ _ _ => .rv32m
  | .rem _ _ _ => .rv32m
  | .remu _ _ _ => .rv32m
  | .mulw _ _ _ => .rv64m
  | .divw _ _ _ => .rv64m
  | .divuw _ _ _ => .rv64m
  | .remw _ _ _ => .rv64m
  | .remuw _ _ _ => .rv64m
  | .lrW _ _ _ _ => .rv32a
  | .scW _ _ _ _ _ => .rv32a
  | .amoswapW _ _ _ _ _ => .rv32a
  | .amoaddW _ _ _ _ _ => .rv32a
  | .amoxorW _ _ _ _ _ => .rv32a
  | .amoorW _ _ _ _ _ => .rv32a
  | .amoandW _ _ _ _ _ => .rv32a
  | .amominW _ _ _ _ _ => .rv32a
  | .amomaxW _ _ _ _ _ => .rv32a
  | .amominuW _ _ _ _ _ => .rv32a
  | .amomaxuW _ _ _ _ _ => .rv32a
  | .lrD _ _ _ _ => .rv64a
  | .scD _ _ _ _ _ => .rv64a
  | .amoswapD _ _ _ _ _ => .rv64a
  | .amoaddD _ _ _ _ _ => .rv64a
  | .amoxorD _ _ _ _ _ => .rv64a
  | .amoorD _ _ _ _ _ => .rv64a
  | .amoandD _ _ _ _ _ => .rv64a
  | .amominD _ _ _ _ _ => .rv64a
  | .amomaxD _ _ _ _ _ => .rv64a
  | .amominuD _ _ _ _ _ => .rv64a
  | .amomaxuD _ _ _ _ _ => .rv64a
  | .ecall => .rv32s
  | .ebreak => .rv32s
  | .uret => .rv32s
  | .sret => .rv32s
  | .hret => .rv32s
  | .mret => .rv32s
  | .dret => .rv32s
  | .sfenceVm _ => .rv32s
  | .wfi => .rv32s
  | .rdcycle _ => .rv32s
  | .rdtime _ => .rv32s
  | .rdinstret _ => .rv32s
  | .rdcycleh _ => .counterHighRows
  | .rdtimeh _ => .counterHighRows
  | .rdinstreth _ => .counterHighRows
  | .csrrw _ _ _ => .rv32s
  | .csrrs _ _ _ => .rv32s
  | .csrrc _ _ _ => .rv32s
  | .csrrwi _ _ _ => .rv32s
  | .csrrsi _ _ _ => .rv32s
  | .csrrci _ _ _ => .rv32s
  | .flw _ _ _ => .rv32f
  | .fsw _ _ _ => .rv32f
  | .fmaddS _ _ _ _ _ => .rv32f
  | .fmsubS _ _ _ _ _ => .rv32f
  | .fnmaddS _ _ _ _ _ => .rv32f
  | .fnmsubS _ _ _ _ _ => .rv32f
  | .faddS _ _ _ _ => .rv32f
  | .fsubS _ _ _ _ => .rv32f
  | .fmulS _ _ _ _ => .rv32f
  | .fdivS _ _ _ _ => .rv32f
  | .fsgnjS _ _ _ => .rv32f
  | .fsgnjnS _ _ _ => .rv32f
  | .fsgnjxS _ _ _ => .rv32f
  | .fminS _ _ _ => .rv32f
  | .fmaxS _ _ _ => .rv32f
  | .fsqrtS _ _ _ => .rv32f
  | .fleS _ _ _ => .rv32f
  | .fltS _ _ _ => .rv32f
  | .feqS _ _ _ => .rv32f
  | .fcvtWS _ _ _ => .rv32f
  | .fcvtWuS _ _ _ => .rv32f
  | .fcvtSW _ _ _ => .rv32f
  | .fcvtSWu _ _ _ => .rv32f
  | .fmvXS _ _ => .rv32f
  | .fclassS _ _ => .rv32f
  | .fmvSX _ _ => .rv32f
  | .fcvtLS _ _ _ => .rv64f
  | .fcvtLuS _ _ _ => .rv64f
  | .fcvtSL _ _ _ => .rv64f
  | .fcvtSLu _ _ _ => .rv64f
  | .fld _ _ _ => .rv32d
  | .fsd _ _ _ => .rv32d
  | .fmaddD _ _ _ _ _ => .rv32d
  | .fmsubD _ _ _ _ _ => .rv32d
  | .fnmaddD _ _ _ _ _ => .rv32d
  | .fnmsubD _ _ _ _ _ => .rv32d
  | .faddD _ _ _ _ => .rv32d
  | .fsubD _ _ _ _ => .rv32d
  | .fmulD _ _ _ _ => .rv32d
  | .fdivD _ _ _ _ => .rv32d
  | .fsgnjD _ _ _ => .rv32d
  | .fsgnjnD _ _ _ => .rv32d
  | .fsgnjxD _ _ _ => .rv32d
  | .fminD _ _ _ => .rv32d
  | .fmaxD _ _ _ => .rv32d
  | .fcvtSD _ _ _ => .rv32d
  | .fcvtDS _ _ _ => .rv32d
  | .fsqrtD _ _ _ => .rv32d
  | .fleD _ _ _ => .rv32d
  | .fltD _ _ _ => .rv32d
  | .feqD _ _ _ => .rv32d
  | .fcvtWD _ _ _ => .rv32d
  | .fcvtWuD _ _ _ => .rv32d
  | .fcvtDW _ _ _ => .rv32d
  | .fcvtDWu _ _ _ => .rv32d
  | .fclassD _ _ => .rv32d
  | .fcvtLD _ _ _ => .rv64d
  | .fcvtLuD _ _ _ => .rv64d
  | .fmvXD _ _ => .rv64d
  | .fcvtDL _ _ _ => .rv64d
  | .fcvtDLu _ _ _ => .rv64d
  | .fmvDX _ _ => .rv64d
  | .frcsr _ => .rv32fd
  | .frrm _ => .rv32fd
  | .frflags _ => .rv32fd
  | .fscsr _ _ => .rv32fd
  | .fsrm _ _ => .rv32fd
  | .fsflags _ _ => .rv32fd
  | .fsrmi _ _ => .rv32fd
  | .fsflagsi _ _ => .rv32fd
  | .flq _ _ _ => .rv32q
  | .fsq _ _ _ => .rv32q
  | .fmaddQ _ _ _ _ _ => .rv32q
  | .fmsubQ _ _ _ _ _ => .rv32q
  | .fnmaddQ _ _ _ _ _ => .rv32q
  | .fnmsubQ _ _ _ _ _ => .rv32q
  | .faddQ _ _ _ _ => .rv32q
  | .fsubQ _ _ _ _ => .rv32q
  | .fmulQ _ _ _ _ => .rv32q
  | .fdivQ _ _ _ _ => .rv32q
  | .fsgnjQ _ _ _ => .rv32q
  | .fsgnjnQ _ _ _ => .rv32q
  | .fsgnjxQ _ _ _ => .rv32q
  | .fminQ _ _ _ => .rv32q
  | .fmaxQ _ _ _ => .rv32q
  | .fcvtSQ _ _ _ => .rv32q
  | .fcvtQS _ _ _ => .rv32q
  | .fcvtDQ _ _ _ => .rv32q
  | .fcvtQD _ _ _ => .rv32q
  | .fsqrtQ _ _ _ => .rv32q
  | .fleQ _ _ _ => .rv32q
  | .fltQ _ _ _ => .rv32q
  | .feqQ _ _ _ => .rv32q
  | .fcvtWQ _ _ _ => .rv32q
  | .fcvtWuQ _ _ _ => .rv32q
  | .fcvtQW _ _ _ => .rv32q
  | .fcvtQWu _ _ _ => .rv32q
  | .fclassQ _ _ => .rv32q
  | .fcvtLQ _ _ _ => .rv64q
  | .fcvtLuQ _ _ _ => .rv64q
  | .fcvtQL _ _ _ => .rv64q
  | .fcvtQLu _ _ _ => .rv64q
  | .fmvXQ _ _ => .rv128q
  | .fmvQX _ _ => .rv128q

/-- The `rm` field of an instruction that has one (spec/45_rv32f_rv64f.md R294). -/
def Instr.rmOf : Instr → Option (BitVec 3)
  | .fmaddS _ _ _ _ rm => some rm
  | .fmsubS _ _ _ _ rm => some rm
  | .fnmaddS _ _ _ _ rm => some rm
  | .fnmsubS _ _ _ _ rm => some rm
  | .faddS _ _ _ rm => some rm
  | .fsubS _ _ _ rm => some rm
  | .fmulS _ _ _ rm => some rm
  | .fdivS _ _ _ rm => some rm
  | .fsqrtS _ _ rm => some rm
  | .fcvtWS _ _ rm => some rm
  | .fcvtWuS _ _ rm => some rm
  | .fcvtSW _ _ rm => some rm
  | .fcvtSWu _ _ rm => some rm
  | .fcvtLS _ _ rm => some rm
  | .fcvtLuS _ _ rm => some rm
  | .fcvtSL _ _ rm => some rm
  | .fcvtSLu _ _ rm => some rm
  | .fmaddD _ _ _ _ rm => some rm
  | .fmsubD _ _ _ _ rm => some rm
  | .fnmaddD _ _ _ _ rm => some rm
  | .fnmsubD _ _ _ _ rm => some rm
  | .faddD _ _ _ rm => some rm
  | .fsubD _ _ _ rm => some rm
  | .fmulD _ _ _ rm => some rm
  | .fdivD _ _ _ rm => some rm
  | .fcvtSD _ _ rm => some rm
  | .fcvtDS _ _ rm => some rm
  | .fsqrtD _ _ rm => some rm
  | .fcvtWD _ _ rm => some rm
  | .fcvtWuD _ _ rm => some rm
  | .fcvtDW _ _ rm => some rm
  | .fcvtDWu _ _ rm => some rm
  | .fcvtLD _ _ rm => some rm
  | .fcvtLuD _ _ rm => some rm
  | .fcvtDL _ _ rm => some rm
  | .fcvtDLu _ _ rm => some rm
  | .fmaddQ _ _ _ _ rm => some rm
  | .fmsubQ _ _ _ _ rm => some rm
  | .fnmaddQ _ _ _ _ rm => some rm
  | .fnmsubQ _ _ _ _ rm => some rm
  | .faddQ _ _ _ rm => some rm
  | .fsubQ _ _ _ rm => some rm
  | .fmulQ _ _ _ rm => some rm
  | .fdivQ _ _ _ rm => some rm
  | .fcvtSQ _ _ rm => some rm
  | .fcvtQS _ _ rm => some rm
  | .fcvtDQ _ _ rm => some rm
  | .fcvtQD _ _ rm => some rm
  | .fsqrtQ _ _ rm => some rm
  | .fcvtWQ _ _ rm => some rm
  | .fcvtWuQ _ _ rm => some rm
  | .fcvtQW _ _ rm => some rm
  | .fcvtQWu _ _ rm => some rm
  | .fcvtLQ _ _ rm => some rm
  | .fcvtLuQ _ _ rm => some rm
  | .fcvtQL _ _ rm => some rm
  | .fcvtQLu _ _ rm => some rm
  | _ => none

/-- The integer register an instruction writes, if it writes one. -/
def Instr.xDest : Instr → Option RegNum
  | .lui rd _ => some rd
  | .auipc rd _ => some rd
  | .jal rd _ => some rd
  | .jalr rd _ _ => some rd
  | .lb rd _ _ => some rd
  | .lh rd _ _ => some rd
  | .lw rd _ _ => some rd
  | .lbu rd _ _ => some rd
  | .lhu rd _ _ => some rd
  | .lwu rd _ _ => some rd
  | .addi rd _ _ => some rd
  | .slti rd _ _ => some rd
  | .sltiu rd _ _ => some rd
  | .xori rd _ _ => some rd
  | .ori rd _ _ => some rd
  | .andi rd _ _ => some rd
  | .slli rd _ _ => some rd
  | .srli rd _ _ => some rd
  | .srai rd _ _ => some rd
  | .add rd _ _ => some rd
  | .sub rd _ _ => some rd
  | .sll rd _ _ => some rd
  | .slt rd _ _ => some rd
  | .sltu rd _ _ => some rd
  | .xor rd _ _ => some rd
  | .srl rd _ _ => some rd
  | .sra rd _ _ => some rd
  | .or rd _ _ => some rd
  | .and rd _ _ => some rd
  | .ld rd _ _ => some rd
  | .addiw rd _ _ => some rd
  | .slliw rd _ _ => some rd
  | .srliw rd _ _ => some rd
  | .sraiw rd _ _ => some rd
  | .addw rd _ _ => some rd
  | .subw rd _ _ => some rd
  | .sllw rd _ _ => some rd
  | .srlw rd _ _ => some rd
  | .sraw rd _ _ => some rd
  | .mul rd _ _ => some rd
  | .mulh rd _ _ => some rd
  | .mulhsu rd _ _ => some rd
  | .mulhu rd _ _ => some rd
  | .div rd _ _ => some rd
  | .divu rd _ _ => some rd
  | .rem rd _ _ => some rd
  | .remu rd _ _ => some rd
  | .mulw rd _ _ => some rd
  | .divw rd _ _ => some rd
  | .divuw rd _ _ => some rd
  | .remw rd _ _ => some rd
  | .remuw rd _ _ => some rd
  | .lrW rd _ _ _ => some rd
  | .scW rd _ _ _ _ => some rd
  | .amoswapW rd _ _ _ _ => some rd
  | .amoaddW rd _ _ _ _ => some rd
  | .amoxorW rd _ _ _ _ => some rd
  | .amoorW rd _ _ _ _ => some rd
  | .amoandW rd _ _ _ _ => some rd
  | .amominW rd _ _ _ _ => some rd
  | .amomaxW rd _ _ _ _ => some rd
  | .amominuW rd _ _ _ _ => some rd
  | .amomaxuW rd _ _ _ _ => some rd
  | .lrD rd _ _ _ => some rd
  | .scD rd _ _ _ _ => some rd
  | .amoswapD rd _ _ _ _ => some rd
  | .amoaddD rd _ _ _ _ => some rd
  | .amoxorD rd _ _ _ _ => some rd
  | .amoorD rd _ _ _ _ => some rd
  | .amoandD rd _ _ _ _ => some rd
  | .amominD rd _ _ _ _ => some rd
  | .amomaxD rd _ _ _ _ => some rd
  | .amominuD rd _ _ _ _ => some rd
  | .amomaxuD rd _ _ _ _ => some rd
  | .rdcycle rd => some rd
  | .rdtime rd => some rd
  | .rdinstret rd => some rd
  | .rdcycleh rd => some rd
  | .rdtimeh rd => some rd
  | .rdinstreth rd => some rd
  | .csrrw rd _ _ => some rd
  | .csrrs rd _ _ => some rd
  | .csrrc rd _ _ => some rd
  | .csrrwi rd _ _ => some rd
  | .csrrsi rd _ _ => some rd
  | .csrrci rd _ _ => some rd
  | .fleS rd _ _ => some rd
  | .fltS rd _ _ => some rd
  | .feqS rd _ _ => some rd
  | .fcvtWS rd _ _ => some rd
  | .fcvtWuS rd _ _ => some rd
  | .fmvXS rd _ => some rd
  | .fclassS rd _ => some rd
  | .fcvtLS rd _ _ => some rd
  | .fcvtLuS rd _ _ => some rd
  | .fleD rd _ _ => some rd
  | .fltD rd _ _ => some rd
  | .feqD rd _ _ => some rd
  | .fcvtWD rd _ _ => some rd
  | .fcvtWuD rd _ _ => some rd
  | .fclassD rd _ => some rd
  | .fcvtLD rd _ _ => some rd
  | .fcvtLuD rd _ _ => some rd
  | .fmvXD rd _ => some rd
  | .frcsr rd => some rd
  | .frrm rd => some rd
  | .frflags rd => some rd
  | .fscsr rd _ => some rd
  | .fsrm rd _ => some rd
  | .fsflags rd _ => some rd
  | .fsrmi rd _ => some rd
  | .fsflagsi rd _ => some rd
  | .fleQ rd _ _ => some rd
  | .fltQ rd _ _ => some rd
  | .feqQ rd _ _ => some rd
  | .fcvtWQ rd _ _ => some rd
  | .fcvtWuQ rd _ _ => some rd
  | .fclassQ rd _ => some rd
  | .fcvtLQ rd _ _ => some rd
  | .fcvtLuQ rd _ _ => some rd
  | .fmvXQ rd _ => some rd
  | _ => none

/-- The floating-point register an instruction writes, if it writes one. -/
def Instr.fDest : Instr → Option RegNum
  | .flw rd _ _ => some rd
  | .fmaddS rd _ _ _ _ => some rd
  | .fmsubS rd _ _ _ _ => some rd
  | .fnmaddS rd _ _ _ _ => some rd
  | .fnmsubS rd _ _ _ _ => some rd
  | .faddS rd _ _ _ => some rd
  | .fsubS rd _ _ _ => some rd
  | .fmulS rd _ _ _ => some rd
  | .fdivS rd _ _ _ => some rd
  | .fsgnjS rd _ _ => some rd
  | .fsgnjnS rd _ _ => some rd
  | .fsgnjxS rd _ _ => some rd
  | .fminS rd _ _ => some rd
  | .fmaxS rd _ _ => some rd
  | .fsqrtS rd _ _ => some rd
  | .fcvtSW rd _ _ => some rd
  | .fcvtSWu rd _ _ => some rd
  | .fmvSX rd _ => some rd
  | .fcvtSL rd _ _ => some rd
  | .fcvtSLu rd _ _ => some rd
  | .fld rd _ _ => some rd
  | .fmaddD rd _ _ _ _ => some rd
  | .fmsubD rd _ _ _ _ => some rd
  | .fnmaddD rd _ _ _ _ => some rd
  | .fnmsubD rd _ _ _ _ => some rd
  | .faddD rd _ _ _ => some rd
  | .fsubD rd _ _ _ => some rd
  | .fmulD rd _ _ _ => some rd
  | .fdivD rd _ _ _ => some rd
  | .fsgnjD rd _ _ => some rd
  | .fsgnjnD rd _ _ => some rd
  | .fsgnjxD rd _ _ => some rd
  | .fminD rd _ _ => some rd
  | .fmaxD rd _ _ => some rd
  | .fcvtSD rd _ _ => some rd
  | .fcvtDS rd _ _ => some rd
  | .fsqrtD rd _ _ => some rd
  | .fcvtDW rd _ _ => some rd
  | .fcvtDWu rd _ _ => some rd
  | .fcvtDL rd _ _ => some rd
  | .fcvtDLu rd _ _ => some rd
  | .fmvDX rd _ => some rd
  | .flq rd _ _ => some rd
  | .fmaddQ rd _ _ _ _ => some rd
  | .fmsubQ rd _ _ _ _ => some rd
  | .fnmaddQ rd _ _ _ _ => some rd
  | .fnmsubQ rd _ _ _ _ => some rd
  | .faddQ rd _ _ _ => some rd
  | .fsubQ rd _ _ _ => some rd
  | .fmulQ rd _ _ _ => some rd
  | .fdivQ rd _ _ _ => some rd
  | .fsgnjQ rd _ _ => some rd
  | .fsgnjnQ rd _ _ => some rd
  | .fsgnjxQ rd _ _ => some rd
  | .fminQ rd _ _ => some rd
  | .fmaxQ rd _ _ => some rd
  | .fcvtSQ rd _ _ => some rd
  | .fcvtQS rd _ _ => some rd
  | .fcvtDQ rd _ _ => some rd
  | .fcvtQD rd _ _ => some rd
  | .fsqrtQ rd _ _ => some rd
  | .fcvtQW rd _ _ => some rd
  | .fcvtQWu rd _ _ => some rd
  | .fcvtQL rd _ _ => some rd
  | .fcvtQLu rd _ _ => some rd
  | .fmvQX rd _ => some rd
  | _ => none

/-- The address an instruction may store to and how many bytes, if it is one that stores: the effective address of a store,
the address in `x[rs1]` of an `sc` or AMO (spec/20_memory.md R66, R69). -/
def Instr.storesTo (s : State) : Instr → Option (Nat × Nat)
  | .sb rs1 _ imm => some (s.addrNat rs1 imm, 1)
  | .sh rs1 _ imm => some (s.addrNat rs1 imm, 2)
  | .sw rs1 _ imm => some (s.addrNat rs1 imm, 4)
  | .sd rs1 _ imm => some (s.addrNat rs1 imm, 8)
  | .scW _ rs1 _ _ _ => some (s.xNat rs1, 4)
  | .amoswapW _ rs1 _ _ _ => some (s.xNat rs1, 4)
  | .amoaddW _ rs1 _ _ _ => some (s.xNat rs1, 4)
  | .amoxorW _ rs1 _ _ _ => some (s.xNat rs1, 4)
  | .amoorW _ rs1 _ _ _ => some (s.xNat rs1, 4)
  | .amoandW _ rs1 _ _ _ => some (s.xNat rs1, 4)
  | .amominW _ rs1 _ _ _ => some (s.xNat rs1, 4)
  | .amomaxW _ rs1 _ _ _ => some (s.xNat rs1, 4)
  | .amominuW _ rs1 _ _ _ => some (s.xNat rs1, 4)
  | .amomaxuW _ rs1 _ _ _ => some (s.xNat rs1, 4)
  | .scD _ rs1 _ _ _ => some (s.xNat rs1, 8)
  | .amoswapD _ rs1 _ _ _ => some (s.xNat rs1, 8)
  | .amoaddD _ rs1 _ _ _ => some (s.xNat rs1, 8)
  | .amoxorD _ rs1 _ _ _ => some (s.xNat rs1, 8)
  | .amoorD _ rs1 _ _ _ => some (s.xNat rs1, 8)
  | .amoandD _ rs1 _ _ _ => some (s.xNat rs1, 8)
  | .amominD _ rs1 _ _ _ => some (s.xNat rs1, 8)
  | .amomaxD _ rs1 _ _ _ => some (s.xNat rs1, 8)
  | .amominuD _ rs1 _ _ _ => some (s.xNat rs1, 8)
  | .amomaxuD _ rs1 _ _ _ => some (s.xNat rs1, 8)
  | .fsw rs1 _ imm => some (s.addrNat rs1 imm, 4)
  | .fsd rs1 _ imm => some (s.addrNat rs1 imm, 8)
  | .fsq rs1 _ imm => some (s.addrNat rs1 imm, 16)
  | _ => none

/-- The instruction is a CSR instruction, one of those that may write `fcsr` (spec/44_rv32s.md R276,
spec/47_rv32fd.md). -/
def Instr.isCsr : Instr → Bool
  | .rdcycle _ => true
  | .rdtime _ => true
  | .rdinstret _ => true
  | .rdcycleh _ => true
  | .rdtimeh _ => true
  | .rdinstreth _ => true
  | .csrrw _ _ _ => true
  | .csrrs _ _ _ => true
  | .csrrc _ _ _ => true
  | .csrrwi _ _ _ => true
  | .csrrsi _ _ _ => true
  | .csrrci _ _ _ => true
  | .frcsr _ => true
  | .frrm _ => true
  | .frflags _ => true
  | .fscsr _ _ => true
  | .fsrm _ _ => true
  | .fsflags _ _ => true
  | .fsrmi _ _ => true
  | .fsflagsi _ _ => true
  | _ => false

/-- The instruction is `lr` or `sc`, those that write the reservation (spec/43_rv32a_rv64a.md R231). -/
def Instr.writesReservation : Instr → Bool
  | .lrW _ _ _ _ => true
  | .scW _ _ _ _ _ => true
  | .lrD _ _ _ _ => true
  | .scD _ _ _ _ _ => true
  | _ => false

end Sys2Proof
end

