-- ==== Sys2Proof/Certificates/Slice0/Obligations.lean ====
section
/-! DEFINITION. The statements for the provers, from the numbered rules of the spec. -/

open Sys2Proof Sys2Proof.Machine

/-- For every instruction of the opcode table whose operands its encoding can hold, the decoder reads from the
encoded word exactly that instruction, with every operand. Formalises: spec/30_encoding.md, Lengths and formats;
spec/30_encoding.md, Opcode map. -/
def Obligations.DecodeInvertsEncode : Prop :=
  ∀ i : Instr, i.wellFormed = true → decode (encode i) = .ok i

/-- If the decoder reads an instruction from a word, then encoding that instruction gives the word back and the
instruction is well formed; so no two words decode to one instruction and no bit of a word is dropped. Formalises:
spec/30_encoding.md, Lengths and formats; spec/30_encoding.md, Opcode map. -/
def Obligations.EncodeInvertsDecode : Prop :=
  ∀ (w : InstrWord) (i : Instr), decode w = .ok i → encode i = w ∧ i.wellFormed = true

/-- Nineteen words that the examples of the family files print, one or more of each format, decode to the
instruction printed beside them. The words of rdcycle and fscsr are also those of csrrs x5, cycle, x0 and csrrw x5,
fcsr, x6 (R277 prints the latter); that the decoder reads the alias row is the model's choice (log entry 14), one of
the two that R130 allows. Formalises: spec/40_rv32i.md, examples; spec/41_rv64i.md, examples;
spec/42_rv32m_rv64m.md, examples; spec/43_rv32a_rv64a.md, examples; spec/44_rv32s.md, examples;
spec/45_rv32f_rv64f.md, examples; spec/47_rv32fd.md, examples; spec/30_encoding.md, Decoding procedure and the JSON
table. -/
def Obligations.DecodeReadsSpecWords : Prop :=
  decode 0x123452b7 = .ok (.lui 5 0x12345) ∧
  decode 0x008000ef = .ok (.jal 1 8) ∧
  decode 0xfe208ce3 = .ok (.beq 1 2 (-8)) ∧
  decode 0xffc52283 = .ok (.lw 5 10 (-4)) ∧
  decode 0x00552423 = .ok (.sw 10 5 8) ∧
  decode 0xfff30293 = .ok (.addi 5 6 (-1)) ∧
  decode 0x40435293 = .ok (.srai 5 6 4) ∧
  decode 0x007302b3 = .ok (.add 5 6 7) ∧
  decode 0x0ff0000f = .ok (.fence 0 15 15 0 0) ∧
  decode 0x0043129b = .ok (.slliw 5 6 4) ∧
  decode 0x027352b3 = .ok (.divu 5 6 7) ∧
  decode 0x160522af = .ok (.lrW 5 10 true true) ∧
  decode 0xe06532af = .ok (.amomaxuD 5 10 6 false false) ∧
  decode 0x10450073 = .ok (.sfenceVm 10) ∧
  decode 0xc00022f3 = .ok (.rdcycle 5) ∧
  decode 0x001332f3 = .ok (.csrrc 5 1 6) ∧
  decode 0x407372c3 = .ok (.fmaddS 5 6 7 8 7) ∧
  decode 0xc01372d3 = .ok (.fcvtWuS 5 6 7) ∧
  decode 0x003312f3 = .ok (.fscsr 5 6)

/-- For every row whose result statement does not say so itself (RV32FD and the computational rows of F, D and Q)
and every operand, the encoded word masked with the mask of the row is the match value of the row. Formalises:
spec/30_encoding.md, Decoding procedure and the JSON table; spec/opcode_table.json. -/
def Obligations.FloatRowsMatchTheTable : Prop :=
  ∀ (rd rs1 rs2 rs3 : RegNum) (rm : BitVec 3) (zimm : BitVec 5),
  Row (.fmaddS rd rs1 rs2 rs3 rm) 0x43 0x600007f ∧
  Row (.fmsubS rd rs1 rs2 rs3 rm) 0x47 0x600007f ∧
  Row (.fnmaddS rd rs1 rs2 rs3 rm) 0x4f 0x600007f ∧
  Row (.fnmsubS rd rs1 rs2 rs3 rm) 0x4b 0x600007f ∧
  Row (.faddS rd rs1 rs2 rm) 0x53 0xfe00007f ∧
  Row (.fsubS rd rs1 rs2 rm) 0x8000053 0xfe00007f ∧
  Row (.fmulS rd rs1 rs2 rm) 0x10000053 0xfe00007f ∧
  Row (.fdivS rd rs1 rs2 rm) 0x18000053 0xfe00007f ∧
  Row (.fsgnjS rd rs1 rs2) 0x20000053 0xfe00707f ∧
  Row (.fsgnjnS rd rs1 rs2) 0x20001053 0xfe00707f ∧
  Row (.fsgnjxS rd rs1 rs2) 0x20002053 0xfe00707f ∧
  Row (.fminS rd rs1 rs2) 0x28000053 0xfe00707f ∧
  Row (.fmaxS rd rs1 rs2) 0x28001053 0xfe00707f ∧
  Row (.fsqrtS rd rs1 rm) 0x58000053 0xfff0007f ∧
  Row (.fleS rd rs1 rs2) 0xa0000053 0xfe00707f ∧
  Row (.fltS rd rs1 rs2) 0xa0001053 0xfe00707f ∧
  Row (.feqS rd rs1 rs2) 0xa0002053 0xfe00707f ∧
  Row (.fcvtWS rd rs1 rm) 0xc0000053 0xfff0007f ∧
  Row (.fcvtWuS rd rs1 rm) 0xc0100053 0xfff0007f ∧
  Row (.fcvtSW rd rs1 rm) 0xd0000053 0xfff0007f ∧
  Row (.fcvtSWu rd rs1 rm) 0xd0100053 0xfff0007f ∧
  Row (.fclassS rd rs1) 0xe0001053 0xfff0707f ∧
  Row (.fcvtLS rd rs1 rm) 0xc0200053 0xfff0007f ∧
  Row (.fcvtLuS rd rs1 rm) 0xc0300053 0xfff0007f ∧
  Row (.fcvtSL rd rs1 rm) 0xd0200053 0xfff0007f ∧
  Row (.fcvtSLu rd rs1 rm) 0xd0300053 0xfff0007f ∧
  Row (.fmaddD rd rs1 rs2 rs3 rm) 0x2000043 0x600007f ∧
  Row (.fmsubD rd rs1 rs2 rs3 rm) 0x2000047 0x600007f ∧
  Row (.fnmaddD rd rs1 rs2 rs3 rm) 0x200004f 0x600007f ∧
  Row (.fnmsubD rd rs1 rs2 rs3 rm) 0x200004b 0x600007f ∧
  Row (.faddD rd rs1 rs2 rm) 0x2000053 0xfe00007f ∧
  Row (.fsubD rd rs1 rs2 rm) 0xa000053 0xfe00007f ∧
  Row (.fmulD rd rs1 rs2 rm) 0x12000053 0xfe00007f ∧
  Row (.fdivD rd rs1 rs2 rm) 0x1a000053 0xfe00007f ∧
  Row (.fsgnjD rd rs1 rs2) 0x22000053 0xfe00707f ∧
  Row (.fsgnjnD rd rs1 rs2) 0x22001053 0xfe00707f ∧
  Row (.fsgnjxD rd rs1 rs2) 0x22002053 0xfe00707f ∧
  Row (.fminD rd rs1 rs2) 0x2a000053 0xfe00707f ∧
  Row (.fmaxD rd rs1 rs2) 0x2a001053 0xfe00707f ∧
  Row (.fcvtSD rd rs1 rm) 0x40100053 0xfff0007f ∧
  Row (.fcvtDS rd rs1 rm) 0x42000053 0xfff0007f ∧
  Row (.fsqrtD rd rs1 rm) 0x5a000053 0xfff0007f ∧
  Row (.fleD rd rs1 rs2) 0xa2000053 0xfe00707f ∧
  Row (.fltD rd rs1 rs2) 0xa2001053 0xfe00707f ∧
  Row (.feqD rd rs1 rs2) 0xa2002053 0xfe00707f ∧
  Row (.fcvtWD rd rs1 rm) 0xc2000053 0xfff0007f ∧
  Row (.fcvtWuD rd rs1 rm) 0xc2100053 0xfff0007f ∧
  Row (.fcvtDW rd rs1 rm) 0xd2000053 0xfff0007f ∧
  Row (.fcvtDWu rd rs1 rm) 0xd2100053 0xfff0007f ∧
  Row (.fclassD rd rs1) 0xe2001053 0xfff0707f ∧
  Row (.fcvtLD rd rs1 rm) 0xc2200053 0xfff0007f ∧
  Row (.fcvtLuD rd rs1 rm) 0xc2300053 0xfff0007f ∧
  Row (.fcvtDL rd rs1 rm) 0xd2200053 0xfff0007f ∧
  Row (.fcvtDLu rd rs1 rm) 0xd2300053 0xfff0007f ∧
  Row (.frcsr rd) 0x302073 0xfffff07f ∧
  Row (.frrm rd) 0x202073 0xfffff07f ∧
  Row (.frflags rd) 0x102073 0xfffff07f ∧
  Row (.fscsr rd rs1) 0x301073 0xfff0707f ∧
  Row (.fsrm rd rs1) 0x201073 0xfff0707f ∧
  Row (.fsflags rd rs1) 0x101073 0xfff0707f ∧
  Row (.fsrmi rd zimm) 0x205073 0xfff0707f ∧
  Row (.fsflagsi rd zimm) 0x105073 0xfff0707f ∧
  Row (.fmaddQ rd rs1 rs2 rs3 rm) 0x6000043 0x600007f ∧
  Row (.fmsubQ rd rs1 rs2 rs3 rm) 0x6000047 0x600007f ∧
  Row (.fnmaddQ rd rs1 rs2 rs3 rm) 0x600004f 0x600007f ∧
  Row (.fnmsubQ rd rs1 rs2 rs3 rm) 0x600004b 0x600007f ∧
  Row (.faddQ rd rs1 rs2 rm) 0x6000053 0xfe00007f ∧
  Row (.fsubQ rd rs1 rs2 rm) 0xe000053 0xfe00007f ∧
  Row (.fmulQ rd rs1 rs2 rm) 0x16000053 0xfe00007f ∧
  Row (.fdivQ rd rs1 rs2 rm) 0x1e000053 0xfe00007f ∧
  Row (.fsgnjQ rd rs1 rs2) 0x26000053 0xfe00707f ∧
  Row (.fsgnjnQ rd rs1 rs2) 0x26001053 0xfe00707f ∧
  Row (.fsgnjxQ rd rs1 rs2) 0x26002053 0xfe00707f ∧
  Row (.fminQ rd rs1 rs2) 0x2e000053 0xfe00707f ∧
  Row (.fmaxQ rd rs1 rs2) 0x2e001053 0xfe00707f ∧
  Row (.fcvtSQ rd rs1 rm) 0x40300053 0xfff0007f ∧
  Row (.fcvtQS rd rs1 rm) 0x46000053 0xfff0007f ∧
  Row (.fcvtDQ rd rs1 rm) 0x42300053 0xfff0007f ∧
  Row (.fcvtQD rd rs1 rm) 0x46100053 0xfff0007f ∧
  Row (.fsqrtQ rd rs1 rm) 0x5e000053 0xfff0007f ∧
  Row (.fleQ rd rs1 rs2) 0xa6000053 0xfe00707f ∧
  Row (.fltQ rd rs1 rs2) 0xa6001053 0xfe00707f ∧
  Row (.feqQ rd rs1 rs2) 0xa6002053 0xfe00707f ∧
  Row (.fcvtWQ rd rs1 rm) 0xc6000053 0xfff0007f ∧
  Row (.fcvtWuQ rd rs1 rm) 0xc6100053 0xfff0007f ∧
  Row (.fcvtQW rd rs1 rm) 0xd6000053 0xfff0007f ∧
  Row (.fcvtQWu rd rs1 rm) 0xd6100053 0xfff0007f ∧
  Row (.fclassQ rd rs1) 0xe6001053 0xfff0707f ∧
  Row (.fcvtLQ rd rs1 rm) 0xc6200053 0xfff0007f ∧
  Row (.fcvtLuQ rd rs1 rm) 0xc6300053 0xfff0007f ∧
  Row (.fcvtQL rd rs1 rm) 0xd6200053 0xfff0007f ∧
  Row (.fcvtQLu rd rs1 rm) 0xd6300053 0xfff0007f

/-- When the four bytes at pc are executable, have not been written since the last fence.i, and are those of the
word of a well-formed instruction i, one step is exec of i at that state; step adds nothing around exec (each
meaning advances pc itself). Formalises: spec/60_exceptions.md, End of a run; spec/20_memory.md, Alignment. -/
def Obligations.StepRunsDecodedInstruction : Prop :=
  ∀ (s : State) (i : Instr), i.wellFormed = true → s.fetchable → s.fetchClean →
  s.holds s.pcNat 4 (byteOfWord (encode i)) → step s = exec i s

/-- A fetch that touches a byte outside every executable region raises InstructionAccessFault with pc; one that
touches a byte written since the last fence.i is refused; a fetched word that decodes to no instruction raises
IllegalInstruction with the word. Formalises: spec/20_memory.md, Alignment; spec/20_memory.md, Memory ordering;
spec/30_encoding.md, Illegal, reserved, hint and custom encodings. -/
def Obligations.FetchStopsTheRun : Prop :=
  ∀ (s : State) (w : InstrWord),
  (¬ s.fetchable → step s = .fault (.trap .instructionAccessFault (shown s.pcNat) (shown s.pcNat))) ∧
  (s.fetchable → ¬ s.fetchClean → step s = .refused (.dirtyFetch (shown s.pcNat))) ∧
  (s.fetchable → s.fetchClean → s.holds s.pcNat 4 (byteOfWord w) → (∀ i, decode w ≠ .ok i) →
    step s = .fault (.trap .illegalInstruction (shown w.toNat) (shown s.pcNat)))

/-- From every state with canonical memory and canonical written-byte set, pc a multiple of 4, the entry of x0 zero
and every register and address within its width, a step that answers a next state gives a state with the same
properties and the same parameters. Formalises: spec/10_state.md, Program counter; spec/10_state.md, General
registers; spec/20_memory.md, The address space and the two primitives. -/
def Obligations.StepKeepsInvariant : Prop :=
  ∀ s t : State, s.Inv → step s = .next t → t.Inv ∧ t.cfg = s.cfg

/-- State.boot of parameters that meet their constraints and of a canonical image whose addresses fit XLEN bits,
with any initial values of registers, meets the invariant, and so does State.reset. The values of registers that are
given none are the model's choice (log entry 3); the invariant asks only that they fit. Formalises:
spec/10_state.md, Reset values; spec/70_reset_and_hazards.md, Reset. -/
def Obligations.ResetMeetsInvariant : Prop :=
  (∀ (cfg : Config) (image : List Host.Cell) (init : InitialValues), cfg.wf → Memory.wf image →
      (∀ c ∈ image, c.1 < 2 ^ cfg.xlen.bits) →
    (State.boot cfg image init).Inv) ∧
  State.reset.Inv

/-- For every parameters, image and initial values: x0 reads 0, pc is RESET_PC, there is no reservation, the set of
written bytes is empty, a byte has a known value exactly where the image defines one, and a register that the
environment gives an initial value, or fcsr if it is given one, holds the low bits of that value that its width
leaves. That of two values given for one register the first counts is the model's choice (log entry 5, DESIGN
CHOICE): R470 and R476 do not speak of a second one. Formalises: spec/10_state.md, Reset values;
spec/70_reset_and_hazards.md, Reset; spec/70_reset_and_hazards.md, Host interface. -/
def Obligations.ResetLeavesStatedValues : Prop :=
  ∀ (cfg : Config) (image : List Host.Cell) (init : InitialValues) (a : Nat) (r : RegNum),
  (State.boot cfg image init).xNat 0 = 0 ∧ (State.boot cfg image init).pc = cfg.resetPc ∧
  (State.boot cfg image init).lr = none ∧ (State.boot cfg image init).dirty = [] ∧
  Memory.read (State.boot cfg image init).mem a = Memory.read image a ∧
  (∀ v, init.x.lookup r = some v → r ≠ 0 → (State.boot cfg image init).xNat r = v.toNat % 2 ^ cfg.xlen.bits) ∧
  (∀ v, init.f.lookup r = some v → (State.boot cfg image init).fNat r = v.toNat % 2 ^ cfg.flen) ∧
  (∀ v, init.fcsr = some v → (State.boot cfg image init).fcsr = v)

/-- x[0] reads as 0 in every state; writing x0 leaves the state as it is; writing another register makes it read as
the value modulo 2^XLEN and leaves every other register as it was. Formalises: spec/10_state.md, General registers.
-/
def Obligations.RegisterZeroReadsZero : Prop :=
  ∀ (s : State) (rd r : RegNum) (v : BitVec 64),
  s.xNat 0 = 0 ∧ s.setX 0 v = s ∧
  (s.setX rd v).xNat r = if r = rd ∧ rd ≠ 0 then v.toNat % 2 ^ s.xlen else s.xNat r

/-- lui writes the 20-bit field shifted left by 12 and sign-extended; auipc adds it to the address of the
instruction, modulo 2^XLEN; both complete in every state, change nothing else, and their words match their rows.
Formalises: R141; R142. -/
def Obligations.UpperImmediateResults : Prop :=
  ∀ (s : State) (rd : RegNum) (imm : BitVec 20),
  Row (.lui rd imm) 0x37 0x7f ∧
  Row (.auipc rd imm) 0x17 0x7f ∧
  CompletesX (.lui rd imm) s rd (wrap s.xlen (asSigned 32 (imm.toNat * 2 ^ 12))) ∧
  CompletesX (.auipc rd imm) s rd (wrap s.xlen (s.pcNat + asSigned 32 (imm.toNat * 2 ^ 12)))

/-- jal goes to pc plus its offset, jalr to x[rs1] plus its immediate with bit 0 cleared, both modulo 2^XLEN; if the
target is a multiple of 4 the link value pc+4 is written and the jump made, with x[rs1] read before x[rd] is
written; otherwise InstructionAddressMisaligned with the target is raised. Formalises: R143; R144. -/
def Obligations.JumpAndLinkLaws : Prop :=
  ∀ (s : State) (rd rs1 : RegNum),
  (∀ imm : BitVec 21, Row (.jal rd imm) 0x6f 0x7f ∧
    (imm.toNat % 2 = 0 → JumpLaw (.jal rd imm) s rd (wrap s.xlen (s.pcNat + imm.toInt)))) ∧
  ∀ imm : BitVec 12, Row (.jalr rd rs1 imm) 0x67 0x707f ∧
    JumpLaw (.jalr rd rs1 imm) s rd (wrap s.xlen (s.xNat rs1 + imm.toInt) / 2 * 2)

/-- A branch whose condition is false goes to pc+4; one whose condition is true goes to pc plus its offset if that
is a multiple of 4 and otherwise raises InstructionAddressMisaligned with it; blt and bge compare as signed, bltu
and bgeu as unsigned; nothing but pc changes. Formalises: R145; R146; R147; R148; R149; R150; R151. -/
def Obligations.BranchLaws : Prop :=
  ∀ (s : State) (rs1 rs2 : RegNum) (imm : BitVec 13), imm.toNat % 2 = 0 →
  Row (.beq rs1 rs2 imm) 0x63 0x707f ∧
  Row (.bne rs1 rs2 imm) 0x1063 0x707f ∧
  Row (.blt rs1 rs2 imm) 0x4063 0x707f ∧
  Row (.bge rs1 rs2 imm) 0x5063 0x707f ∧
  Row (.bltu rs1 rs2 imm) 0x6063 0x707f ∧
  Row (.bgeu rs1 rs2 imm) 0x7063 0x707f ∧
  BranchLaw (.beq rs1 rs2 imm) s imm (s.xNat rs1 = s.xNat rs2) ∧
  BranchLaw (.bne rs1 rs2 imm) s imm (s.xNat rs1 ≠ s.xNat rs2) ∧
  BranchLaw (.blt rs1 rs2 imm) s imm (s.xInt rs1 < s.xInt rs2) ∧
  BranchLaw (.bge rs1 rs2 imm) s imm (s.xInt rs2 ≤ s.xInt rs1) ∧
  BranchLaw (.bltu rs1 rs2 imm) s imm (s.xNat rs1 < s.xNat rs2) ∧
  BranchLaw (.bgeu rs1 rs2 imm) s imm (s.xNat rs2 ≤ s.xNat rs1)

/-- A load at the effective address (x[rs1] plus the sign-extended immediate modulo 2^XLEN) raises
LoadAddressMisaligned if it is misaligned, else LoadAccessFault if some byte may not be read, else writes the
little-endian value of the bytes, sign- or zero-extended, and changes nothing else; lwu and ld at XLEN = 64, and at
XLEN = 32 both are illegal. Formalises: R153; R154; R155; R156; R157; R158; R191. -/
def Obligations.LoadLaws : Prop :=
  ∀ (s : State) (rd rs1 : RegNum) (imm : BitVec 12),
  s.addrNat rs1 imm = wrap s.xlen (s.xNat rs1 + imm.toInt) ∧
  Row (.lb rd rs1 imm) 0x3 0x707f ∧
  Row (.lh rd rs1 imm) 0x1003 0x707f ∧
  Row (.lw rd rs1 imm) 0x2003 0x707f ∧
  Row (.lbu rd rs1 imm) 0x4003 0x707f ∧
  Row (.lhu rd rs1 imm) 0x5003 0x707f ∧
  Row (.lwu rd rs1 imm) 0x6003 0x707f ∧
  Row (.ld rd rs1 imm) 0x3003 0x707f ∧
  LoadLaw (.lb rd rs1 imm) s rd (s.addrNat rs1 imm) 1 (fun v => wrap s.xlen (asSigned 8 v)) ∧
  LoadLaw (.lh rd rs1 imm) s rd (s.addrNat rs1 imm) 2 (fun v => wrap s.xlen (asSigned 16 v)) ∧
  LoadLaw (.lw rd rs1 imm) s rd (s.addrNat rs1 imm) 4 (fun v => wrap s.xlen (asSigned 32 v)) ∧
  LoadLaw (.lbu rd rs1 imm) s rd (s.addrNat rs1 imm) 1 id ∧
  LoadLaw (.lhu rd rs1 imm) s rd (s.addrNat rs1 imm) 2 id ∧
  (s.xlen = 64 → LoadLaw (.lwu rd rs1 imm) s rd (s.addrNat rs1 imm) 4 id) ∧
  (s.xlen = 64 → LoadLaw (.ld rd rs1 imm) s rd (s.addrNat rs1 imm) 8 id) ∧
  (s.xlen = 32 → Illegal (.lwu rd rs1 imm) s) ∧
  (s.xlen = 32 → Illegal (.ld rd rs1 imm) s)

/-- An integer or floating-point load, lr or AMO, available, aligned and permitted, that touches a byte of no known
value is refused by the name of such a byte when the parameter is fault; when it is any value it completes after one
draw as it does for bytes that agree with every known one, the others being free. The fetch of such bytes, permitted
and not written since the last fence.i, is refused likewise, or after one draw runs the instruction of a word that
agrees with the known bytes, or raises IllegalInstruction with that word if it is none. Formalises:
spec/10_state.md, Registers nothing has written; spec/20_memory.md, The address space and the two primitives;
spec/20_memory.md, Alignment; spec/60_exceptions.md, End of a run. -/
def Obligations.LoadsOfUnknownBytes : Prop :=
  ∀ (s : State) (rd rs1 rs2 : RegNum) (imm : BitVec 12) (aq rl : Bool),
  UnknownLoadLaw (.lb rd rs1 imm) s rd (s.addrNat rs1 imm) 1 (fun v => wrap s.xlen (asSigned 8 v)) ∧
  UnknownLoadLaw (.lh rd rs1 imm) s rd (s.addrNat rs1 imm) 2 (fun v => wrap s.xlen (asSigned 16 v)) ∧
  UnknownLoadLaw (.lw rd rs1 imm) s rd (s.addrNat rs1 imm) 4 (fun v => wrap s.xlen (asSigned 32 v)) ∧
  UnknownLoadLaw (.lbu rd rs1 imm) s rd (s.addrNat rs1 imm) 1 id ∧
  UnknownLoadLaw (.lhu rd rs1 imm) s rd (s.addrNat rs1 imm) 2 id ∧
  (s.xlen = 64 → UnknownLoadLaw (.lwu rd rs1 imm) s rd (s.addrNat rs1 imm) 4 id) ∧
  (s.xlen = 64 → UnknownLoadLaw (.ld rd rs1 imm) s rd (s.addrNat rs1 imm) 8 id) ∧
  (s.cfg.extF = true → UnknownFloatLoadLaw (.flw rd rs1 imm) s rd (s.addrNat rs1 imm) 4) ∧
  (s.cfg.extD = true → UnknownFloatLoadLaw (.fld rd rs1 imm) s rd (s.addrNat rs1 imm) 8) ∧
  (s.cfg.extQ = true → UnknownFloatLoadLaw (.flq rd rs1 imm) s rd (s.addrNat rs1 imm) 16) ∧
  (s.cfg.extA = true → UnknownReservedLaw (.lrW rd rs1 aq rl) s rd rs1 4) ∧
  (s.cfg.extA = true → s.xlen = 64 → UnknownReservedLaw (.lrD rd rs1 aq rl) s rd rs1 8) ∧
  (s.cfg.extA = true → UnknownAmoLaw (.amoswapW rd rs1 rs2 aq rl) s rd rs1 rs2 4
    (fun a _ => a)) ∧
  (s.cfg.extA = true → UnknownAmoLaw (.amoaddW rd rs1 rs2 aq rl) s rd rs1 rs2 4
    (fun a b => a + b)) ∧
  (s.cfg.extA = true → UnknownAmoLaw (.amoxorW rd rs1 rs2 aq rl) s rd rs1 rs2 4
    (fun a b => a ^^^ b)) ∧
  (s.cfg.extA = true → UnknownAmoLaw (.amoorW rd rs1 rs2 aq rl) s rd rs1 rs2 4
    (fun a b => a ||| b)) ∧
  (s.cfg.extA = true → UnknownAmoLaw (.amoandW rd rs1 rs2 aq rl) s rd rs1 rs2 4
    (fun a b => a &&& b)) ∧
  (s.cfg.extA = true → UnknownAmoLaw (.amominW rd rs1 rs2 aq rl) s rd rs1 rs2 4
    (fun a b => if asSigned 32 a < asSigned 32 b then a else b)) ∧
  (s.cfg.extA = true → UnknownAmoLaw (.amomaxW rd rs1 rs2 aq rl) s rd rs1 rs2 4
    (fun a b => if asSigned 32 a < asSigned 32 b then b else a)) ∧
  (s.cfg.extA = true → UnknownAmoLaw (.amominuW rd rs1 rs2 aq rl) s rd rs1 rs2 4
    (fun a b => if a < b then a else b)) ∧
  (s.cfg.extA = true → UnknownAmoLaw (.amomaxuW rd rs1 rs2 aq rl) s rd rs1 rs2 4
    (fun a b => if a < b then b else a)) ∧
  (s.cfg.extA = true → s.xlen = 64 → UnknownAmoLaw (.amoswapD rd rs1 rs2 aq rl) s rd rs1 rs2 8
    (fun a _ => a)) ∧
  (s.cfg.extA = true → s.xlen = 64 → UnknownAmoLaw (.amoaddD rd rs1 rs2 aq rl) s rd rs1 rs2 8
    (fun a b => a + b)) ∧
  (s.cfg.extA = true → s.xlen = 64 → UnknownAmoLaw (.amoxorD rd rs1 rs2 aq rl) s rd rs1 rs2 8
    (fun a b => a ^^^ b)) ∧
  (s.cfg.extA = true → s.xlen = 64 → UnknownAmoLaw (.amoorD rd rs1 rs2 aq rl) s rd rs1 rs2 8
    (fun a b => a ||| b)) ∧
  (s.cfg.extA = true → s.xlen = 64 → UnknownAmoLaw (.amoandD rd rs1 rs2 aq rl) s rd rs1 rs2 8
    (fun a b => a &&& b)) ∧
  (s.cfg.extA = true → s.xlen = 64 → UnknownAmoLaw (.amominD rd rs1 rs2 aq rl) s rd rs1 rs2 8
    (fun a b => if asSigned 64 a < asSigned 64 b then a else b)) ∧
  (s.cfg.extA = true → s.xlen = 64 → UnknownAmoLaw (.amomaxD rd rs1 rs2 aq rl) s rd rs1 rs2 8
    (fun a b => if asSigned 64 a < asSigned 64 b then b else a)) ∧
  (s.cfg.extA = true → s.xlen = 64 → UnknownAmoLaw (.amominuD rd rs1 rs2 aq rl) s rd rs1 rs2 8
    (fun a b => if a < b then a else b)) ∧
  (s.cfg.extA = true → s.xlen = 64 → UnknownAmoLaw (.amomaxuD rd rs1 rs2 aq rl) s rd rs1 rs2 8
    (fun a b => if a < b then b else a)) ∧
  (s.fetchable → s.fetchClean → UnknownReadLaw s s.pcNat 4 (step s) fun b =>
    ∃ w : InstrWord, (∀ k < 4, byteOfWord w k = b k) ∧
      (∀ i, decode w = .ok i → step s = exec i { s with draws := s.draws + 1 }) ∧
      ((∀ i, decode w ≠ .ok i) → step s = .fault (.trap .illegalInstruction (shown w.toNat) (shown s.pcNat))))

/-- A store at the effective address (x[rs1] plus the sign-extended immediate modulo 2^XLEN) raises
StoreAMOAddressMisaligned if it is misaligned, else StoreAMOAccessFault if some byte may not be written, else writes
the low bytes of x[rs2] little-endian at that address, remembers them as written, and changes no other byte and no
register; sd at XLEN = 64, and at XLEN = 32 it is illegal. Formalises: R159; R160; R161; R192. -/
def Obligations.StoreLaws : Prop :=
  ∀ (s : State) (rs1 rs2 : RegNum) (imm : BitVec 12),
  s.addrNat rs1 imm = wrap s.xlen (s.xNat rs1 + imm.toInt) ∧
  Row (.sb rs1 rs2 imm) 0x23 0x707f ∧
  Row (.sh rs1 rs2 imm) 0x1023 0x707f ∧
  Row (.sw rs1 rs2 imm) 0x2023 0x707f ∧
  Row (.sd rs1 rs2 imm) 0x3023 0x707f ∧
  StoreLaw (.sb rs1 rs2 imm) s (s.addrNat rs1 imm) 1 (s.xNat rs2) ∧
  StoreLaw (.sh rs1 rs2 imm) s (s.addrNat rs1 imm) 2 (s.xNat rs2) ∧
  StoreLaw (.sw rs1 rs2 imm) s (s.addrNat rs1 imm) 4 (s.xNat rs2) ∧
  (s.xlen = 64 → StoreLaw (.sd rs1 rs2 imm) s (s.addrNat rs1 imm) 8 (s.xNat rs2)) ∧
  (s.xlen = 32 → Illegal (.sd rs1 rs2 imm) s)

/-- Each completes in every state with its result in x[rd], the 12-bit immediate sign-extended (for sltiu then read
as unsigned), and changes nothing else but pc. Formalises: R162; R163; R164; R165; R166; R167. -/
def Obligations.ImmediateArithmeticResults : Prop :=
  ∀ (s : State) (rd rs1 : RegNum) (imm : BitVec 12),
  Row (.addi rd rs1 imm) 0x13 0x707f ∧
  Row (.slti rd rs1 imm) 0x2013 0x707f ∧
  Row (.sltiu rd rs1 imm) 0x3013 0x707f ∧
  Row (.xori rd rs1 imm) 0x4013 0x707f ∧
  Row (.ori rd rs1 imm) 0x6013 0x707f ∧
  Row (.andi rd rs1 imm) 0x7013 0x707f ∧
  CompletesX (.addi rd rs1 imm) s rd (wrap s.xlen (s.xInt rs1 + imm.toInt)) ∧
  CompletesX (.slti rd rs1 imm) s rd (if s.xInt rs1 < imm.toInt then 1 else 0) ∧
  CompletesX (.sltiu rd rs1 imm) s rd (if s.xNat rs1 < wrap s.xlen imm.toInt then 1 else 0) ∧
  CompletesX (.xori rd rs1 imm) s rd (s.xNat rs1 ^^^ wrap s.xlen imm.toInt) ∧
  CompletesX (.ori rd rs1 imm) s rd (s.xNat rs1 ||| wrap s.xlen imm.toInt) ∧
  CompletesX (.andi rd rs1 imm) s rd (s.xNat rs1 &&& wrap s.xlen imm.toInt)

/-- A shift amount below XLEN shifts left with zeros, right with zeros, or right with copies of the sign (rounding
toward minus infinity), and changes nothing else; an amount of XLEN or more (inst[25] = 1 at XLEN = 32) is an
illegal instruction. Formalises: R168; R169; R170. -/
def Obligations.ImmediateShiftResults : Prop :=
  ∀ (s : State) (rd rs1 : RegNum) (shamt : BitVec 6),
  Row (.slli rd rs1 shamt) 0x1013 0xfc00707f ∧
  Row (.srli rd rs1 shamt) 0x5013 0xfc00707f ∧
  Row (.srai rd rs1 shamt) 0x40005013 0xfc00707f ∧
  (shamt.toNat < s.xlen → CompletesX (.slli rd rs1 shamt) s rd (s.xNat rs1 * 2 ^ shamt.toNat % 2 ^ s.xlen)) ∧
  (shamt.toNat < s.xlen → CompletesX (.srli rd rs1 shamt) s rd (s.xNat rs1 / 2 ^ shamt.toNat)) ∧
  (shamt.toNat < s.xlen → CompletesX (.srai rd rs1 shamt) s rd (wrap s.xlen (s.xInt rs1 / 2 ^ shamt.toNat))) ∧
  (s.xlen ≤ shamt.toNat → Illegal (.slli rd rs1 shamt) s) ∧
  (s.xlen ≤ shamt.toNat → Illegal (.srli rd rs1 shamt) s) ∧
  (s.xlen ≤ shamt.toNat → Illegal (.srai rd rs1 shamt) s)

/-- add, sub, sll, slt, sltu, xor, srl, sra, or, and complete in every state with their result in x[rd] (sums and
differences modulo 2^XLEN, shift amounts the low 5 or 6 bits of x[rs2]) and change nothing else but pc. Formalises:
R171; R172; R173; R174; R175; R176; R177; R178; R179; R180. -/
def Obligations.RegisterArithmeticResults : Prop :=
  ∀ (s : State) (rd rs1 rs2 : RegNum),
  Row (.add rd rs1 rs2) 0x33 0xfe00707f ∧
  Row (.sub rd rs1 rs2) 0x40000033 0xfe00707f ∧
  Row (.sll rd rs1 rs2) 0x1033 0xfe00707f ∧
  Row (.slt rd rs1 rs2) 0x2033 0xfe00707f ∧
  Row (.sltu rd rs1 rs2) 0x3033 0xfe00707f ∧
  Row (.xor rd rs1 rs2) 0x4033 0xfe00707f ∧
  Row (.srl rd rs1 rs2) 0x5033 0xfe00707f ∧
  Row (.sra rd rs1 rs2) 0x40005033 0xfe00707f ∧
  Row (.or rd rs1 rs2) 0x6033 0xfe00707f ∧
  Row (.and rd rs1 rs2) 0x7033 0xfe00707f ∧
  CompletesX (.add rd rs1 rs2) s rd (wrap s.xlen (s.xInt rs1 + s.xInt rs2)) ∧
  CompletesX (.sub rd rs1 rs2) s rd (wrap s.xlen (s.xInt rs1 - s.xInt rs2)) ∧
  CompletesX (.sll rd rs1 rs2) s rd (s.xNat rs1 * 2 ^ (s.xNat rs2 % s.xlen) % 2 ^ s.xlen) ∧
  CompletesX (.slt rd rs1 rs2) s rd (if s.xInt rs1 < s.xInt rs2 then 1 else 0) ∧
  CompletesX (.sltu rd rs1 rs2) s rd (if s.xNat rs1 < s.xNat rs2 then 1 else 0) ∧
  CompletesX (.xor rd rs1 rs2) s rd (s.xNat rs1 ^^^ s.xNat rs2) ∧
  CompletesX (.srl rd rs1 rs2) s rd (s.xNat rs1 / 2 ^ (s.xNat rs2 % s.xlen)) ∧
  CompletesX (.sra rd rs1 rs2) s rd (wrap s.xlen (s.xInt rs1 / 2 ^ (s.xNat rs2 % s.xlen))) ∧
  CompletesX (.or rd rs1 rs2) s rd (s.xNat rs1 ||| s.xNat rs2) ∧
  CompletesX (.and rd rs1 rs2) s rd (s.xNat rs1 &&& s.xNat rs2)

/-- fence completes whatever its fields hold and changes no register and no byte; fence.i, whatever its ignored
fields hold, leaves the set of written bytes empty and changes nothing else; their words match their rows.
Formalises: R181; R182. -/
def Obligations.FenceLaws : Prop :=
  ∀ (s : State) (fm pred succ : BitVec 4) (imm : BitVec 12) (rs1 rd : RegNum),
  Row (.fence fm pred succ rs1 rd) 0xf 0x707f ∧
  Row (.fenceI imm rs1 rd) 0x100f 0x707f ∧
  CompletesPc (.fence fm pred succ rs1 rd) s s.seqPc ∧
  ∃ t, exec (.fenceI imm rs1 rd) s = .next t ∧ t.dirty = [] ∧ t.pcNat = s.seqPc ∧
    (∀ a, Memory.read t.mem a = Memory.read s.mem a) ∧
    SameX s t ∧ SameF s t ∧ SameFcsr s t ∧ SameLr s t ∧ SameRun s t

/-- At XLEN = 64 each reads only the low 32 bits of its register operands, computes a 32-bit result, writes it
sign-extended to x[rd] and changes nothing else but pc; at XLEN = 32 each is an illegal instruction, and the three
immediate shifts with inst[25] = 1 are no instruction. Formalises: R193; R194; R195; R196; R197; R198; R199; R200;
R201. -/
def Obligations.WordOperationResults : Prop :=
  ∀ (s : State) (rd rs1 rs2 : RegNum) (imm : BitVec 12) (shamt : BitVec 5),
  Row (.addiw rd rs1 imm) 0x1b 0x707f ∧
  Row (.slliw rd rs1 shamt) 0x101b 0xfe00707f ∧
  Row (.srliw rd rs1 shamt) 0x501b 0xfe00707f ∧
  Row (.sraiw rd rs1 shamt) 0x4000501b 0xfe00707f ∧
  Row (.addw rd rs1 rs2) 0x3b 0xfe00707f ∧
  Row (.subw rd rs1 rs2) 0x4000003b 0xfe00707f ∧
  Row (.sllw rd rs1 rs2) 0x103b 0xfe00707f ∧
  Row (.srlw rd rs1 rs2) 0x503b 0xfe00707f ∧
  Row (.sraw rd rs1 rs2) 0x4000503b 0xfe00707f ∧
  (s.xlen = 64 →
    CompletesX (.addiw rd rs1 imm) s rd (wrap s.xlen (asSigned 32 (wrap 32 (s.wInt rs1 + imm.toInt)))) ∧
    CompletesX (.slliw rd rs1 shamt) s rd (wrap s.xlen (asSigned 32 ((s.wNat rs1 * 2 ^ shamt.toNat) % 2 ^ 32))) ∧
    CompletesX (.srliw rd rs1 shamt) s rd (wrap s.xlen (asSigned 32 ((s.wNat rs1 / 2 ^ shamt.toNat) % 2 ^ 32))) ∧
    CompletesX (.sraiw rd rs1 shamt) s rd (wrap s.xlen (asSigned 32 (wrap 32 (s.wInt rs1 / 2 ^ shamt.toNat)))) ∧
    CompletesX (.addw rd rs1 rs2) s rd (wrap s.xlen (asSigned 32 (wrap 32 (s.wInt rs1 + s.wInt rs2)))) ∧
    CompletesX (.subw rd rs1 rs2) s rd (wrap s.xlen (asSigned 32 (wrap 32 (s.wInt rs1 - s.wInt rs2)))) ∧
    CompletesX (.sllw rd rs1 rs2) s rd (wrap s.xlen (asSigned 32 ((s.wNat rs1 * 2 ^ (s.xNat rs2 % 32)) % 2 ^ 32))) ∧
    CompletesX (.srlw rd rs1 rs2) s rd (wrap s.xlen (asSigned 32 ((s.wNat rs1 / 2 ^ (s.xNat rs2 % 32)) % 2 ^ 32))) ∧
    CompletesX (.sraw rd rs1 rs2) s rd (wrap s.xlen (asSigned 32 (wrap 32 (s.wInt rs1 / 2 ^ (s.xNat rs2 % 32)))))) ∧
  (s.xlen = 32 →
    Illegal (.addiw rd rs1 imm) s ∧
    Illegal (.slliw rd rs1 shamt) s ∧
    Illegal (.srliw rd rs1 shamt) s ∧
    Illegal (.sraiw rd rs1 shamt) s ∧
    Illegal (.addw rd rs1 rs2) s ∧
    Illegal (.subw rd rs1 rs2) s ∧
    Illegal (.sllw rd rs1 rs2) s ∧
    Illegal (.srlw rd rs1 rs2) s ∧
    Illegal (.sraw rd rs1 rs2) s) ∧
  ∀ (w : InstrWord) (i : Instr), w &&& 0xfe00707f = 0x0200101b ∨ w &&& 0xfe00707f = 0x0200501b ∨ w &&& 0xfe00707f =
      0x4200501b →
    decode w ≠ .ok i

/-- With EXT_M each completes with the low or the high XLEN bits of the exact product of its operands read as signed
or unsigned; mulw (XLEN = 64) writes the low 32 bits of the product of the low words, sign-extended; nothing else
changes but pc. Formalises: R211; R212; R213; R214; R220. -/
def Obligations.MultiplyResults : Prop :=
  ∀ (s : State) (rd rs1 rs2 : RegNum), s.cfg.extM = true →
  Row (.mul rd rs1 rs2) 0x2000033 0xfe00707f ∧
  Row (.mulh rd rs1 rs2) 0x2001033 0xfe00707f ∧
  Row (.mulhsu rd rs1 rs2) 0x2002033 0xfe00707f ∧
  Row (.mulhu rd rs1 rs2) 0x2003033 0xfe00707f ∧
  Row (.mulw rd rs1 rs2) 0x200003b 0xfe00707f ∧
  CompletesX (.mul rd rs1 rs2) s rd (wrap s.xlen (s.xNat rs1 * s.xNat rs2)) ∧
  CompletesX (.mulh rd rs1 rs2) s rd (wrap s.xlen (s.xInt rs1 * s.xInt rs2 / 2 ^ s.xlen)) ∧
  CompletesX (.mulhsu rd rs1 rs2) s rd (wrap s.xlen (s.xInt rs1 * s.xNat rs2 / 2 ^ s.xlen)) ∧
  CompletesX (.mulhu rd rs1 rs2) s rd (s.xNat rs1 * s.xNat rs2 / 2 ^ s.xlen) ∧
  (s.xlen = 64 → CompletesX (.mulw rd rs1 rs2) s rd (wrap s.xlen (asSigned 32 ((s.wNat rs1 * s.wNat rs2) % 2 ^ 32))))

/-- With EXT_M each completes: a zero divisor gives all ones as quotient and the dividend as remainder, the signed
overflow gives the dividend and 0, otherwise the truncating quotient and its remainder with the sign of the
dividend; the w forms (XLEN = 64) work on the low words and write the 32-bit result sign-extended; nothing else
changes but pc. Formalises: R215; R216; R217; R218; R221; R222; R223; R224. -/
def Obligations.DivideResults : Prop :=
  ∀ (s : State) (rd rs1 rs2 : RegNum), s.cfg.extM = true →
  Row (.div rd rs1 rs2) 0x2004033 0xfe00707f ∧
  Row (.divu rd rs1 rs2) 0x2005033 0xfe00707f ∧
  Row (.rem rd rs1 rs2) 0x2006033 0xfe00707f ∧
  Row (.remu rd rs1 rs2) 0x2007033 0xfe00707f ∧
  Row (.divw rd rs1 rs2) 0x200403b 0xfe00707f ∧
  Row (.divuw rd rs1 rs2) 0x200503b 0xfe00707f ∧
  Row (.remw rd rs1 rs2) 0x200603b 0xfe00707f ∧
  Row (.remuw rd rs1 rs2) 0x200703b 0xfe00707f ∧
  CompletesX (.div rd rs1 rs2) s rd
    (if s.xNat rs2 = 0 then 2 ^ s.xlen - 1
    else if s.xInt rs1 = -2 ^ (s.xlen - 1) ∧ s.xInt rs2 = -1 then s.xNat rs1
    else wrap s.xlen ((s.xInt rs1).tdiv (s.xInt rs2))) ∧
  CompletesX (.divu rd rs1 rs2) s rd
    (if s.xNat rs2 = 0 then 2 ^ s.xlen - 1 else s.xNat rs1 / s.xNat rs2) ∧
  CompletesX (.rem rd rs1 rs2) s rd
    (if s.xNat rs2 = 0 then s.xNat rs1
    else if s.xInt rs1 = -2 ^ (s.xlen - 1) ∧ s.xInt rs2 = -1 then 0
    else wrap s.xlen (s.xInt rs1 - s.xInt rs2 * (s.xInt rs1).tdiv (s.xInt rs2))) ∧
  CompletesX (.remu rd rs1 rs2) s rd
    (if s.xNat rs2 = 0 then s.xNat rs1 else s.xNat rs1 % s.xNat rs2) ∧
  (s.xlen = 64 → CompletesX (.divw rd rs1 rs2) s rd
    (if s.wNat rs2 = 0 then 2 ^ s.xlen - 1
    else if s.wInt rs1 = -2 ^ 31 ∧ s.wInt rs2 = -1 then wrap s.xlen (-2 ^ 31)
    else wrap s.xlen (asSigned 32 (wrap 32 ((s.wInt rs1).tdiv (s.wInt rs2)))))) ∧
  (s.xlen = 64 → CompletesX (.divuw rd rs1 rs2) s rd
    (if s.wNat rs2 = 0 then 2 ^ s.xlen - 1 else wrap s.xlen (asSigned 32 ((s.wNat rs1 / s.wNat rs2) % 2 ^ 32)))) ∧
  (s.xlen = 64 → CompletesX (.remw rd rs1 rs2) s rd
    (if s.wNat rs2 = 0 then wrap s.xlen (s.wInt rs1)
    else if s.wInt rs1 = -2 ^ 31 ∧ s.wInt rs2 = -1 then 0
    else wrap s.xlen (asSigned 32 (wrap 32 (s.wInt rs1 - s.wInt rs2 * (s.wInt rs1).tdiv (s.wInt rs2)))))) ∧
  (s.xlen = 64 → CompletesX (.remuw rd rs1 rs2) s rd
    (if s.wNat rs2 = 0 then wrap s.xlen (s.wInt rs1) else wrap s.xlen (asSigned 32 ((s.wNat rs1 % s.wNat rs2) % 2 ^
        32))))

/-- With EXT_A, lr raises LoadAddressMisaligned if misaligned, else LoadAccessFault without read and atomic
permission, else writes the sign-extended value to x[rd], sets the reservation to the address (the old x[rs1]) and
changes nothing else; aq and rl change nothing; lr.d at XLEN = 64; with another rs2 field than 00000 the word is no
instruction. Formalises: R233; R244. -/
def Obligations.LoadReservedLaws : Prop :=
  ∀ (s : State) (rd rs1 : RegNum) (aq rl : Bool), s.cfg.extA = true →
  Row (.lrW rd rs1 aq rl) 0x1000202f 0xf9f0707f ∧
  Row (.lrD rd rs1 aq rl) 0x1000302f 0xf9f0707f ∧
  LoadReservedLaw (.lrW rd rs1 aq rl) s rd rs1 4 ∧
  (s.xlen = 64 → LoadReservedLaw (.lrD rd rs1 aq rl) s rd rs1 8) ∧
  ∀ (w : InstrWord) (i : Instr), w &&& 0xf800707f = 0x1000202f ∨ w &&& 0xf800707f = 0x1000302f →
    w &&& 0x01f00000 ≠ 0 → decode w ≠ .ok i

/-- With EXT_A, sc checks alignment and then write and atomic permission, matching reservation or not; without a
matching reservation it writes 1 to x[rd] and stores nothing; with one, a draw decides between storing with code 0
and failing with code 1; in every case the reservation is cleared; sc.d at XLEN = 64. Formalises: R234; R245. -/
def Obligations.StoreConditionalLaws : Prop :=
  ∀ (s : State) (rd rs1 rs2 : RegNum) (aq rl : Bool), s.cfg.extA = true →
  Row (.scW rd rs1 rs2 aq rl) 0x1800202f 0xf800707f ∧
  Row (.scD rd rs1 rs2 aq rl) 0x1800302f 0xf800707f ∧
  StoreConditionalLaw (.scW rd rs1 rs2 aq rl) s rd rs1 rs2 4 ∧
  (s.xlen = 64 → StoreConditionalLaw (.scD rd rs1 rs2 aq rl) s rd rs1 rs2 8)

/-- With EXT_A, each AMO at x[rs1] raises StoreAMOAddressMisaligned if misaligned, else StoreAMOAccessFault without
read, write and atomic permission, else writes the old value sign-extended to x[rd] and the operation of x[rs2] and
the old value to memory, and changes nothing else. Formalises: R235; R236; R237; R238; R239; R240; R241; R242; R243.
-/
def Obligations.AmoWordLaws : Prop :=
  ∀ (s : State) (rd rs1 rs2 : RegNum) (aq rl : Bool), s.cfg.extA = true →
  Row (.amoswapW rd rs1 rs2 aq rl) 0x800202f 0xf800707f ∧
  Row (.amoaddW rd rs1 rs2 aq rl) 0x202f 0xf800707f ∧
  Row (.amoxorW rd rs1 rs2 aq rl) 0x2000202f 0xf800707f ∧
  Row (.amoorW rd rs1 rs2 aq rl) 0x4000202f 0xf800707f ∧
  Row (.amoandW rd rs1 rs2 aq rl) 0x6000202f 0xf800707f ∧
  Row (.amominW rd rs1 rs2 aq rl) 0x8000202f 0xf800707f ∧
  Row (.amomaxW rd rs1 rs2 aq rl) 0xa000202f 0xf800707f ∧
  Row (.amominuW rd rs1 rs2 aq rl) 0xc000202f 0xf800707f ∧
  Row (.amomaxuW rd rs1 rs2 aq rl) 0xe000202f 0xf800707f ∧
  AmoLaw (.amoswapW rd rs1 rs2 aq rl) s rd rs1 rs2 4 (fun a _ => a) ∧
  AmoLaw (.amoaddW rd rs1 rs2 aq rl) s rd rs1 rs2 4 (fun a b => a + b) ∧
  AmoLaw (.amoxorW rd rs1 rs2 aq rl) s rd rs1 rs2 4 (fun a b => a ^^^ b) ∧
  AmoLaw (.amoorW rd rs1 rs2 aq rl) s rd rs1 rs2 4 (fun a b => a ||| b) ∧
  AmoLaw (.amoandW rd rs1 rs2 aq rl) s rd rs1 rs2 4 (fun a b => a &&& b) ∧
  AmoLaw (.amominW rd rs1 rs2 aq rl) s rd rs1 rs2 4 (fun a b => if asSigned 32 a < asSigned 32 b then a else b) ∧
  AmoLaw (.amomaxW rd rs1 rs2 aq rl) s rd rs1 rs2 4 (fun a b => if asSigned 32 a < asSigned 32 b then b else a) ∧
  AmoLaw (.amominuW rd rs1 rs2 aq rl) s rd rs1 rs2 4 (fun a b => if a < b then a else b) ∧
  AmoLaw (.amomaxuW rd rs1 rs2 aq rl) s rd rs1 rs2 4 (fun a b => if a < b then b else a)

/-- With EXT_A and XLEN = 64, each AMO at x[rs1] raises StoreAMOAddressMisaligned if misaligned, else
StoreAMOAccessFault without read, write and atomic permission, else writes the old value sign-extended to x[rd] and
the operation of x[rs2] and the old value to memory, and changes nothing else. Formalises: R246; R247; R248; R249;
R250; R251; R252; R253; R254. -/
def Obligations.AmoDoublewordLaws : Prop :=
  ∀ (s : State) (rd rs1 rs2 : RegNum) (aq rl : Bool), s.cfg.extA = true → s.xlen = 64 →
  Row (.amoswapD rd rs1 rs2 aq rl) 0x800302f 0xf800707f ∧
  Row (.amoaddD rd rs1 rs2 aq rl) 0x302f 0xf800707f ∧
  Row (.amoxorD rd rs1 rs2 aq rl) 0x2000302f 0xf800707f ∧
  Row (.amoorD rd rs1 rs2 aq rl) 0x4000302f 0xf800707f ∧
  Row (.amoandD rd rs1 rs2 aq rl) 0x6000302f 0xf800707f ∧
  Row (.amominD rd rs1 rs2 aq rl) 0x8000302f 0xf800707f ∧
  Row (.amomaxD rd rs1 rs2 aq rl) 0xa000302f 0xf800707f ∧
  Row (.amominuD rd rs1 rs2 aq rl) 0xc000302f 0xf800707f ∧
  Row (.amomaxuD rd rs1 rs2 aq rl) 0xe000302f 0xf800707f ∧
  AmoLaw (.amoswapD rd rs1 rs2 aq rl) s rd rs1 rs2 8 (fun a _ => a) ∧
  AmoLaw (.amoaddD rd rs1 rs2 aq rl) s rd rs1 rs2 8 (fun a b => a + b) ∧
  AmoLaw (.amoxorD rd rs1 rs2 aq rl) s rd rs1 rs2 8 (fun a b => a ^^^ b) ∧
  AmoLaw (.amoorD rd rs1 rs2 aq rl) s rd rs1 rs2 8 (fun a b => a ||| b) ∧
  AmoLaw (.amoandD rd rs1 rs2 aq rl) s rd rs1 rs2 8 (fun a b => a &&& b) ∧
  AmoLaw (.amominD rd rs1 rs2 aq rl) s rd rs1 rs2 8 (fun a b => if asSigned 64 a < asSigned 64 b then a else b) ∧
  AmoLaw (.amomaxD rd rs1 rs2 aq rl) s rd rs1 rs2 8 (fun a b => if asSigned 64 a < asSigned 64 b then b else a) ∧
  AmoLaw (.amominuD rd rs1 rs2 aq rl) s rd rs1 rs2 8 (fun a b => if a < b then a else b) ∧
  AmoLaw (.amomaxuD rd rs1 rs2 aq rl) s rd rs1 rs2 8 (fun a b => if a < b then b else a)

/-- With EXT_SYS, ecall raises EnvironmentCall and ebreak raises Breakpoint, each recording pc: the run ends in that
trap, nothing written; the codes are 8 and 3; their words are 0x00000073 and 0x00100073. Formalises: R261; R262. -/
def Obligations.CallAndBreakpointTrap : Prop :=
  ∀ s : State, s.cfg.extSys = true →
  Row (.ecall) 0x73 0xffffffff ∧
  Row (.ebreak) 0x100073 0xffffffff ∧
  Traps .ecall s .environmentCall s.pcNat ∧
  Traps .ebreak s .breakpoint s.pcNat ∧
  Exception.environmentCall.code = 8 ∧
  Exception.breakpoint.code = 3

/-- With EXT_SYS, uret, sret, hret, mret, dret, sfence.vm and wfi end the run in a refusal that names the mnemonic
and pc, neither a trap nor a value (Refused(mnemonic, pc) of R447; R263 to R269 refuse the seven); their words match
their rows. The four names of the refusals and how they group the instructions are the model's (log entry 12).
Formalises: spec/44_rv32s.md, Trap returns (refused); spec/44_rv32s.md, Memory-management fence and wait (refused);
spec/60_exceptions.md, Trap return and nesting. -/
def Obligations.PrivilegedInstructionsRefused : Prop :=
  ∀ (s : State) (rs1 : RegNum), s.cfg.extSys = true →
  Row (.uret) 0x200073 0xffffffff ∧
  Row (.sret) 0x10200073 0xffffffff ∧
  Row (.hret) 0x20200073 0xffffffff ∧
  Row (.mret) 0x30200073 0xffffffff ∧
  Row (.dret) 0x7b200073 0xffffffff ∧
  Row (.sfenceVm rs1) 0x10400073 0xfff07fff ∧
  Row (.wfi) 0x10500073 0xffffffff ∧
  exec .uret s = .refused (.trapReturnUndefined "uret" (shown s.pcNat)) ∧
  exec .sret s = .refused (.trapReturnUndefined "sret" (shown s.pcNat)) ∧
  exec .hret s = .refused (.trapReturnUndefined "hret" (shown s.pcNat)) ∧
  exec .mret s = .refused (.trapReturnUndefined "mret" (shown s.pcNat)) ∧
  exec .dret s = .refused (.debugReturnUndefined "dret" (shown s.pcNat)) ∧
  exec (.sfenceVm rs1) s = .refused (.translationFenceUndefined "sfence.vm" (shown s.pcNat)) ∧
  exec .wfi s = .refused (.waitForInterruptUndefined "wfi" (shown s.pcNat))

/-- With EXT_SYS, rdcycle, rdtime and rdinstret write the low XLEN bits of a fresh draw to x[rd]; at XLEN = 32
rdcycleh, rdtimeh and rdinstreth write bits [63:32] of one; nothing else changes but pc and the count of draws; at
XLEN = 64 the high reads are illegal. Formalises: R270; R271; R272; R273; R274; R275. -/
def Obligations.CounterReadLaws : Prop :=
  ∀ (s : State) (rd : RegNum), s.cfg.extSys = true →
  Row (.rdcycle rd) 0xc0002073 0xfffff07f ∧
  Row (.rdtime rd) 0xc0102073 0xfffff07f ∧
  Row (.rdinstret rd) 0xc0202073 0xfffff07f ∧
  Row (.rdcycleh rd) 0xc8002073 0xfffff07f ∧
  Row (.rdtimeh rd) 0xc8102073 0xfffff07f ∧
  Row (.rdinstreth rd) 0xc8202073 0xfffff07f ∧
  CompletesDraw (.rdcycle rd) s rd (s.counterView 0xc00) ∧
  CompletesDraw (.rdtime rd) s rd (s.counterView 0xc01) ∧
  CompletesDraw (.rdinstret rd) s rd (s.counterView 0xc02) ∧
  (s.xlen = 32 → CompletesDraw (.rdcycleh rd) s rd (s.counterView 0xc80)) ∧
  (s.xlen = 32 → CompletesDraw (.rdtimeh rd) s rd (s.counterView 0xc81)) ∧
  (s.xlen = 32 → CompletesDraw (.rdinstreth rd) s rd (s.counterView 0xc82)) ∧
  (s.xlen = 64 → Illegal (.rdcycleh rd) s) ∧
  (s.xlen = 64 → Illegal (.rdtimeh rd) s) ∧
  (s.xlen = 64 → Illegal (.rdinstreth rd) s)

/-- With EXT_SYS: on an existing view of fcsr each puts the old value in x[rd] (nothing for x0) and writes x[rs1] or
the immediate, or sets or clears those bits, unless the operand field of a set or clear is zero, storing only the
writable bits; an existing counter is read by a set or clear with a zero operand field as the free value of a draw,
and every form that writes it is illegal; on an address that is no CSR under the parameters all six are illegal.
Formalises: R276; R277; R278; R279; R280; R281; R282. -/
def Obligations.CsrInstructionLaws : Prop :=
  ∀ (s : State) (rd rs1 : RegNum) (zimm : BitVec 5) (a : BitVec 12),
  Row (.csrrw rd a rs1) 0x1073 0x707f ∧
  Row (.csrrs rd a rs1) 0x2073 0x707f ∧
  Row (.csrrc rd a rs1) 0x3073 0x707f ∧
  Row (.csrrwi rd a zimm) 0x5073 0x707f ∧
  Row (.csrrsi rd a zimm) 0x6073 0x707f ∧
  Row (.csrrci rd a zimm) 0x7073 0x707f ∧
  (s.cfg.extSys = true → s.csrExists a → ¬ csrIsCounter a →
    CompletesCsr (.csrrw rd a rs1) s rd a (some (s.xNat rs1)) ∧
    CompletesCsr (.csrrs rd a rs1) s rd a (if rs1 = 0 then none else some (s.fcsrView a ||| s.xNat rs1)) ∧
    CompletesCsr (.csrrc rd a rs1) s rd a (if rs1 =
        0 then none else some (s.fcsrView a ^^^ (s.fcsrView a &&& s.xNat rs1))) ∧
    CompletesCsr (.csrrwi rd a zimm) s rd a (some zimm.toNat) ∧
    CompletesCsr (.csrrsi rd a zimm) s rd a (if zimm = 0 then none else some (s.fcsrView a ||| zimm.toNat)) ∧
    CompletesCsr (.csrrci rd a zimm) s rd a (if zimm =
        0 then none else some (s.fcsrView a ^^^ (s.fcsrView a &&& zimm.toNat)))) ∧
  (s.cfg.extSys = true → s.csrExists a → csrIsCounter a →
    CompletesDraw (.csrrs rd a 0) s rd (s.counterView a) ∧
    CompletesDraw (.csrrc rd a 0) s rd (s.counterView a) ∧
    CompletesDraw (.csrrsi rd a 0) s rd (s.counterView a) ∧
    CompletesDraw (.csrrci rd a 0) s rd (s.counterView a) ∧
    Illegal (.csrrw rd a rs1) s ∧
    Illegal (.csrrwi rd a zimm) s ∧
    (rs1 ≠ 0 → Illegal (.csrrs rd a rs1) s ∧ Illegal (.csrrc rd a rs1) s) ∧
    (zimm ≠ 0 → Illegal (.csrrsi rd a zimm) s ∧ Illegal (.csrrci rd a zimm) s)) ∧
  (¬ s.csrExists a →
    Illegal (.csrrw rd a rs1) s ∧
    Illegal (.csrrs rd a rs1) s ∧
    Illegal (.csrrc rd a rs1) s ∧
    Illegal (.csrrwi rd a zimm) s ∧
    Illegal (.csrrsi rd a zimm) s ∧
    Illegal (.csrrci rd a zimm) s)

/-- With EXT_F, frcsr, frrm and frflags read their view of fcsr into x[rd]; fscsr, fsrm, fsflags swap it with
x[rs1], fsrmi and fsflagsi with the immediate; only the writable bits are stored; nothing else changes but pc.
Formalises: spec/47_rv32fd.md; spec/30_encoding.md, Assembler syntax and pseudo-instructions. -/
def Obligations.FcsrPseudoInstructions : Prop :=
  ∀ (s : State) (rd rs1 : RegNum) (zimm : BitVec 5), s.cfg.extF = true →
  CompletesCsr (.frcsr rd) s rd 0x003 none ∧
  CompletesCsr (.frrm rd) s rd 0x002 none ∧
  CompletesCsr (.frflags rd) s rd 0x001 none ∧
  CompletesCsr (.fscsr rd rs1) s rd 0x003 (some (s.xNat rs1)) ∧
  CompletesCsr (.fsrm rd rs1) s rd 0x002 (some (s.xNat rs1)) ∧
  CompletesCsr (.fsflags rd rs1) s rd 0x001 (some (s.xNat rs1)) ∧
  CompletesCsr (.fsrmi rd zimm) s rd 0x002 (some zimm.toNat) ∧
  CompletesCsr (.fsflagsi rd zimm) s rd 0x001 (some zimm.toNat)

/-- With the extension of its format, a floating-point load at the effective address raises LoadAddressMisaligned or
LoadAccessFault like an integer load, else puts the bits unchanged and NaN-boxed into f[rd], with no flags, and
changes nothing else but pc. Formalises: R310; R351; R401. -/
def Obligations.FloatLoadLaws : Prop :=
  ∀ (s : State) (rd rs1 : RegNum) (imm : BitVec 12),
  Row (.flw rd rs1 imm) 0x2007 0x707f ∧
  Row (.fld rd rs1 imm) 0x3007 0x707f ∧
  Row (.flq rd rs1 imm) 0x4007 0x707f ∧
  (s.cfg.extF = true → FloatLoadLaw (.flw rd rs1 imm) s rd (s.addrNat rs1 imm) 4) ∧
  (s.cfg.extD = true → FloatLoadLaw (.fld rd rs1 imm) s rd (s.addrNat rs1 imm) 8) ∧
  (s.cfg.extQ = true → FloatLoadLaw (.flq rd rs1 imm) s rd (s.addrNat rs1 imm) 16)

/-- With the extension of its format, a floating-point store at the effective address raises
StoreAMOAddressMisaligned or StoreAMOAccessFault like an integer store, else stores the low bits of f[rs2] without a
NaN-boxing check, and changes nothing else but pc. Formalises: R311; R352; R402. -/
def Obligations.FloatStoreLaws : Prop :=
  ∀ (s : State) (rs1 rs2 : RegNum) (imm : BitVec 12),
  Row (.fsw rs1 rs2 imm) 0x2027 0x707f ∧
  Row (.fsd rs1 rs2 imm) 0x3027 0x707f ∧
  Row (.fsq rs1 rs2 imm) 0x4027 0x707f ∧
  (s.cfg.extF = true → StoreLaw (.fsw rs1 rs2 imm) s (s.addrNat rs1 imm) 4 (s.fNat rs2)) ∧
  (s.cfg.extD = true → StoreLaw (.fsd rs1 rs2 imm) s (s.addrNat rs1 imm) 8 (s.fNat rs2)) ∧
  (s.cfg.extQ = true → StoreLaw (.fsq rs1 rs2 imm) s (s.addrNat rs1 imm) 16 (s.fNat rs2))

/-- With the extension of the format and a valid rounding mode, each takes its operands through the NaN-boxing
check, writes the result of its operation in that mode to f[rd] NaN-boxed, accrues its flags, and changes nothing
else but pc. What the operations deliver is the matter of other statements. Formalises: spec/45_rv32f_rv64f.md,
Common floating-point rules; spec/46_rv32d_rv64d.md; spec/48_rv32q_rv64q_rv128q.md. -/
def Obligations.FloatArithmeticCompletes : Prop :=
  ∀ (s : State) (rd rs1 rs2 rs3 : RegNum) (rm : BitVec 3) (mode : RoundMode), s.roundMode rm = some mode →
  (s.cfg.extF = true → CompletesF (.faddS rd rs1 rs2 rm) s rd (Fmt.add .s mode (s.readF .s rs1) (s.readF .s rs2))) ∧
  (s.cfg.extF = true → CompletesF (.fsubS rd rs1 rs2 rm) s rd (Fmt.sub .s mode (s.readF .s rs1) (s.readF .s rs2))) ∧
  (s.cfg.extF = true → CompletesF (.fmulS rd rs1 rs2 rm) s rd (Fmt.mul .s mode (s.readF .s rs1) (s.readF .s rs2))) ∧
  (s.cfg.extF = true → CompletesF (.fdivS rd rs1 rs2 rm) s rd (Fmt.div .s mode (s.readF .s rs1) (s.readF .s rs2))) ∧
  (s.cfg.extD = true → CompletesF (.faddD rd rs1 rs2 rm) s rd (Fmt.add .d mode (s.readF .d rs1) (s.readF .d rs2))) ∧
  (s.cfg.extD = true → CompletesF (.fsubD rd rs1 rs2 rm) s rd (Fmt.sub .d mode (s.readF .d rs1) (s.readF .d rs2))) ∧
  (s.cfg.extD = true → CompletesF (.fmulD rd rs1 rs2 rm) s rd (Fmt.mul .d mode (s.readF .d rs1) (s.readF .d rs2))) ∧
  (s.cfg.extD = true → CompletesF (.fdivD rd rs1 rs2 rm) s rd (Fmt.div .d mode (s.readF .d rs1) (s.readF .d rs2))) ∧
  (s.cfg.extQ = true → CompletesF (.faddQ rd rs1 rs2 rm) s rd (Fmt.add .q mode (s.readF .q rs1) (s.readF .q rs2))) ∧
  (s.cfg.extQ = true → CompletesF (.fsubQ rd rs1 rs2 rm) s rd (Fmt.sub .q mode (s.readF .q rs1) (s.readF .q rs2))) ∧
  (s.cfg.extQ = true → CompletesF (.fmulQ rd rs1 rs2 rm) s rd (Fmt.mul .q mode (s.readF .q rs1) (s.readF .q rs2))) ∧
  (s.cfg.extQ = true → CompletesF (.fdivQ rd rs1 rs2 rm) s rd (Fmt.div .q mode (s.readF .q rs1) (s.readF .q rs2))) ∧
  (s.cfg.extF = true → CompletesF (.fmaddS rd rs1 rs2 rs3 rm) s rd (Fmt.fmadd .s mode (s.readF .s rs1) (s.readF .s
      rs2) (s.readF .s rs3))) ∧
  (s.cfg.extF = true → CompletesF (.fmsubS rd rs1 rs2 rs3 rm) s rd (Fmt.fmsub .s mode (s.readF .s rs1) (s.readF .s
      rs2) (s.readF .s rs3))) ∧
  (s.cfg.extF = true → CompletesF (.fnmaddS rd rs1 rs2 rs3 rm) s rd (Fmt.fnmadd .s mode (s.readF .s rs1) (s.readF .s
      rs2) (s.readF .s rs3))) ∧
  (s.cfg.extF = true → CompletesF (.fnmsubS rd rs1 rs2 rs3 rm) s rd (Fmt.fnmsub .s mode (s.readF .s rs1) (s.readF .s
      rs2) (s.readF .s rs3))) ∧
  (s.cfg.extD = true → CompletesF (.fmaddD rd rs1 rs2 rs3 rm) s rd (Fmt.fmadd .d mode (s.readF .d rs1) (s.readF .d
      rs2) (s.readF .d rs3))) ∧
  (s.cfg.extD = true → CompletesF (.fmsubD rd rs1 rs2 rs3 rm) s rd (Fmt.fmsub .d mode (s.readF .d rs1) (s.readF .d
      rs2) (s.readF .d rs3))) ∧
  (s.cfg.extD = true → CompletesF (.fnmaddD rd rs1 rs2 rs3 rm) s rd (Fmt.fnmadd .d mode (s.readF .d rs1) (s.readF .d
      rs2) (s.readF .d rs3))) ∧
  (s.cfg.extD = true → CompletesF (.fnmsubD rd rs1 rs2 rs3 rm) s rd (Fmt.fnmsub .d mode (s.readF .d rs1) (s.readF .d
      rs2) (s.readF .d rs3))) ∧
  (s.cfg.extQ = true → CompletesF (.fmaddQ rd rs1 rs2 rs3 rm) s rd (Fmt.fmadd .q mode (s.readF .q rs1) (s.readF .q
      rs2) (s.readF .q rs3))) ∧
  (s.cfg.extQ = true → CompletesF (.fmsubQ rd rs1 rs2 rs3 rm) s rd (Fmt.fmsub .q mode (s.readF .q rs1) (s.readF .q
      rs2) (s.readF .q rs3))) ∧
  (s.cfg.extQ = true → CompletesF (.fnmaddQ rd rs1 rs2 rs3 rm) s rd (Fmt.fnmadd .q mode (s.readF .q rs1) (s.readF .q
      rs2) (s.readF .q rs3))) ∧
  (s.cfg.extQ = true → CompletesF (.fnmsubQ rd rs1 rs2 rs3 rm) s rd (Fmt.fnmsub .q mode (s.readF .q rs1) (s.readF .q
      rs2) (s.readF .q rs3)))

/-- With the extension of the instruction and a valid rounding mode, each writes the result of its operation on the
boxing-checked operand to f[rd], NaN-boxed in the destination format, accrues its flags, and changes nothing else
but pc. Formalises: spec/45_rv32f_rv64f.md, Common floating-point rules; spec/46_rv32d_rv64d.md;
spec/48_rv32q_rv64q_rv128q.md. -/
def Obligations.SquareRootAndFormatConversionComplete : Prop :=
  ∀ (s : State) (rd rs1 : RegNum) (rm : BitVec 3) (mode : RoundMode), s.roundMode rm = some mode →
  (s.cfg.extF = true → CompletesF (.fsqrtS rd rs1 rm) s rd (Fmt.sqrt .s mode (s.readF .s rs1))) ∧
  (s.cfg.extD = true → CompletesF (.fsqrtD rd rs1 rm) s rd (Fmt.sqrt .d mode (s.readF .d rs1))) ∧
  (s.cfg.extQ = true → CompletesF (.fsqrtQ rd rs1 rm) s rd (Fmt.sqrt .q mode (s.readF .q rs1))) ∧
  (s.cfg.extD = true → CompletesF (.fcvtSD rd rs1 rm) s rd (Fmt.convert .d .s mode (s.readF .d rs1))) ∧
  (s.cfg.extD = true → CompletesF (.fcvtDS rd rs1 rm) s rd (Fmt.convert .s .d mode (s.readF .s rs1))) ∧
  (s.cfg.extQ = true → CompletesF (.fcvtSQ rd rs1 rm) s rd (Fmt.convert .q .s mode (s.readF .q rs1))) ∧
  (s.cfg.extQ = true → CompletesF (.fcvtQS rd rs1 rm) s rd (Fmt.convert .s .q mode (s.readF .s rs1))) ∧
  (s.cfg.extQ = true → CompletesF (.fcvtDQ rd rs1 rm) s rd (Fmt.convert .q .d mode (s.readF .q rs1))) ∧
  (s.cfg.extQ = true → CompletesF (.fcvtQD rd rs1 rm) s rd (Fmt.convert .d .q mode (s.readF .d rs1)))

/-- fsgnj, fsgnjn and fsgnjx in the three formats put the magnitude bits of the first operand under the sign bit of
the second, its complement, or the exclusive-or of both, with the NaN-boxing check on both operands and the result
NaN-boxed; no flags, no rounding, nothing else changes but pc. Formalises: R298. -/
def Obligations.SignInjectionResults : Prop :=
  ∀ (s : State) (rd rs1 rs2 : RegNum),
  (s.cfg.extF = true → CompletesFBits (.fsgnjS rd rs1 rs2) s rd 32
    (((s.readF .s rs2).toNat / 2 ^ 31) * 2 ^ 31 + (s.readF .s rs1).toNat % 2 ^ 31)) ∧
  (s.cfg.extF = true → CompletesFBits (.fsgnjnS rd rs1 rs2) s rd 32
    ((1 - (s.readF .s rs2).toNat / 2 ^ 31) * 2 ^ 31 + (s.readF .s rs1).toNat % 2 ^ 31)) ∧
  (s.cfg.extF = true → CompletesFBits (.fsgnjxS rd rs1 rs2) s rd 32
    ((((s.readF .s rs1).toNat / 2 ^ 31 + (s.readF .s rs2).toNat / 2 ^ 31) % 2) * 2 ^ 31 + (s.readF .s rs1).toNat % 2
        ^ 31)) ∧
  (s.cfg.extD = true → CompletesFBits (.fsgnjD rd rs1 rs2) s rd 64
    (((s.readF .d rs2).toNat / 2 ^ 63) * 2 ^ 63 + (s.readF .d rs1).toNat % 2 ^ 63)) ∧
  (s.cfg.extD = true → CompletesFBits (.fsgnjnD rd rs1 rs2) s rd 64
    ((1 - (s.readF .d rs2).toNat / 2 ^ 63) * 2 ^ 63 + (s.readF .d rs1).toNat % 2 ^ 63)) ∧
  (s.cfg.extD = true → CompletesFBits (.fsgnjxD rd rs1 rs2) s rd 64
    ((((s.readF .d rs1).toNat / 2 ^ 63 + (s.readF .d rs2).toNat / 2 ^ 63) % 2) * 2 ^ 63 + (s.readF .d rs1).toNat % 2
        ^ 63)) ∧
  (s.cfg.extQ = true → CompletesFBits (.fsgnjQ rd rs1 rs2) s rd 128
    (((s.readF .q rs2).toNat / 2 ^ 127) * 2 ^ 127 + (s.readF .q rs1).toNat % 2 ^ 127)) ∧
  (s.cfg.extQ = true → CompletesFBits (.fsgnjnQ rd rs1 rs2) s rd 128
    ((1 - (s.readF .q rs2).toNat / 2 ^ 127) * 2 ^ 127 + (s.readF .q rs1).toNat % 2 ^ 127)) ∧
  (s.cfg.extQ = true → CompletesFBits (.fsgnjxQ rd rs1 rs2) s rd 128
    ((((s.readF .q rs1).toNat / 2 ^ 127 + (s.readF .q rs2).toNat / 2 ^ 127) % 2) * 2 ^ 127 + (s.readF .q rs1).toNat %
        2 ^ 127))

/-- With the extension of the format, fmin and fmax write the result of their operation to f[rd], NaN-boxed, and
accrue its flags; for zeros of opposite sign under FMINMAX_2008 one of the two zeros, whichever a draw says, is
written with no flag; nothing else changes but pc (and the count of draws). The operation: of two operands that are
no NaN and not both zero, the one that is smaller (fmin) or larger (fmax) by value, its bits unchanged; of two zeros
of one sign that zero, and of opposite zeros -0 (fmin) or +0 (fmax); two NaNs give the canonical NaN; a NaN and a
number the number, but under FMINMAX_2008 the canonical NaN if the NaN is signaling; NV exactly if an operand is a
signaling NaN, and no other flag. Formalises: spec/45_rv32f_rv64f.md, Common floating-point rules. -/
def Obligations.MinMaxCompletes : Prop :=
  (∀ (s : State) (rd rs1 rs2 : RegNum),
  (s.cfg.extF = true → (s.cfg.fminmax2008 && Fmt.oppositeZeros .s (s.readF .s rs1) (s.readF .s rs2)) = false →
    CompletesF (.fminS rd rs1 rs2) s rd (Fmt.minimum .s s.cfg.fminmax2008 (s.readF .s rs1) (s.readF .s rs2))) ∧
  (s.cfg.extF = true → (s.cfg.fminmax2008 && Fmt.oppositeZeros .s (s.readF .s rs1) (s.readF .s rs2)) = false →
    CompletesF (.fmaxS rd rs1 rs2) s rd (Fmt.maximum .s s.cfg.fminmax2008 (s.readF .s rs1) (s.readF .s rs2))) ∧
  (s.cfg.extD = true → (s.cfg.fminmax2008 && Fmt.oppositeZeros .d (s.readF .d rs1) (s.readF .d rs2)) = false →
    CompletesF (.fminD rd rs1 rs2) s rd (Fmt.minimum .d s.cfg.fminmax2008 (s.readF .d rs1) (s.readF .d rs2))) ∧
  (s.cfg.extD = true → (s.cfg.fminmax2008 && Fmt.oppositeZeros .d (s.readF .d rs1) (s.readF .d rs2)) = false →
    CompletesF (.fmaxD rd rs1 rs2) s rd (Fmt.maximum .d s.cfg.fminmax2008 (s.readF .d rs1) (s.readF .d rs2))) ∧
  (s.cfg.extQ = true → (s.cfg.fminmax2008 && Fmt.oppositeZeros .q (s.readF .q rs1) (s.readF .q rs2)) = false →
    CompletesF (.fminQ rd rs1 rs2) s rd (Fmt.minimum .q s.cfg.fminmax2008 (s.readF .q rs1) (s.readF .q rs2))) ∧
  (s.cfg.extQ = true → (s.cfg.fminmax2008 && Fmt.oppositeZeros .q (s.readF .q rs1) (s.readF .q rs2)) = false →
    CompletesF (.fmaxQ rd rs1 rs2) s rd (Fmt.maximum .q s.cfg.fminmax2008 (s.readF .q rs1) (s.readF .q rs2))) ∧
  (s.cfg.extF = true → (s.cfg.fminmax2008 && Fmt.oppositeZeros .s (s.readF .s rs1) (s.readF .s rs2)) = true →
    ∃ t, exec (.fminS rd rs1 rs2) s = .next t ∧ (FIs s t rd (s.box 32 0) ∨ FIs s t rd (s.box 32 (2 ^ 31))) ∧
      t.pcNat = s.seqPc ∧ t.cfg = s.cfg ∧ t.draws = s.draws + 1 ∧ SameX s t ∧ SameFcsr s t ∧ SameMem s t ∧
          SameLr s t) ∧
  (s.cfg.extF = true → (s.cfg.fminmax2008 && Fmt.oppositeZeros .s (s.readF .s rs1) (s.readF .s rs2)) = true →
    ∃ t, exec (.fmaxS rd rs1 rs2) s = .next t ∧ (FIs s t rd (s.box 32 0) ∨ FIs s t rd (s.box 32 (2 ^ 31))) ∧
      t.pcNat = s.seqPc ∧ t.cfg = s.cfg ∧ t.draws = s.draws + 1 ∧ SameX s t ∧ SameFcsr s t ∧ SameMem s t ∧
          SameLr s t) ∧
  (s.cfg.extD = true → (s.cfg.fminmax2008 && Fmt.oppositeZeros .d (s.readF .d rs1) (s.readF .d rs2)) = true →
    ∃ t, exec (.fminD rd rs1 rs2) s = .next t ∧ (FIs s t rd (s.box 64 0) ∨ FIs s t rd (s.box 64 (2 ^ 63))) ∧
      t.pcNat = s.seqPc ∧ t.cfg = s.cfg ∧ t.draws = s.draws + 1 ∧ SameX s t ∧ SameFcsr s t ∧ SameMem s t ∧
          SameLr s t) ∧
  (s.cfg.extD = true → (s.cfg.fminmax2008 && Fmt.oppositeZeros .d (s.readF .d rs1) (s.readF .d rs2)) = true →
    ∃ t, exec (.fmaxD rd rs1 rs2) s = .next t ∧ (FIs s t rd (s.box 64 0) ∨ FIs s t rd (s.box 64 (2 ^ 63))) ∧
      t.pcNat = s.seqPc ∧ t.cfg = s.cfg ∧ t.draws = s.draws + 1 ∧ SameX s t ∧ SameFcsr s t ∧ SameMem s t ∧
          SameLr s t) ∧
  (s.cfg.extQ = true → (s.cfg.fminmax2008 && Fmt.oppositeZeros .q (s.readF .q rs1) (s.readF .q rs2)) = true →
    ∃ t, exec (.fminQ rd rs1 rs2) s = .next t ∧ (FIs s t rd (s.box 128 0) ∨ FIs s t rd (s.box 128 (2 ^ 127))) ∧
      t.pcNat = s.seqPc ∧ t.cfg = s.cfg ∧ t.draws = s.draws + 1 ∧ SameX s t ∧ SameFcsr s t ∧ SameMem s t ∧
          SameLr s t) ∧
  (s.cfg.extQ = true → (s.cfg.fminmax2008 && Fmt.oppositeZeros .q (s.readF .q rs1) (s.readF .q rs2)) = true →
    ∃ t, exec (.fmaxQ rd rs1 rs2) s = .next t ∧ (FIs s t rd (s.box 128 0) ∨ FIs s t rd (s.box 128 (2 ^ 127))) ∧
      t.pcNat = s.seqPc ∧ t.cfg = s.cfg ∧ t.draws = s.draws + 1 ∧ SameX s t ∧ SameFcsr s t ∧ SameMem s t ∧
          SameLr s t)) ∧
  ∀ (fmt : Fmt) (y : Bool) (a b : fmt.Bits),
  ((fmt.datum a).isNaN = false → (fmt.datum b).isNaN = false → ¬ (fmt.isZero a = true ∧ fmt.isZero b = true) →
    ((fmt.datum a).place ≤ (fmt.datum b).place →
      fmt.minimum y a b = ⟨a, .none⟩ ∧ fmt.maximum y a b = ⟨b, .none⟩) ∧
    ((fmt.datum b).place ≤ (fmt.datum a).place →
      fmt.minimum y a b = ⟨b, .none⟩ ∧ fmt.maximum y a b = ⟨a, .none⟩)) ∧
  (fmt.isZero a = true → fmt.isZero b = true →
    (fmt.sign a = fmt.sign b → fmt.minimum y a b = ⟨a, .none⟩ ∧ fmt.maximum y a b = ⟨a, .none⟩) ∧
    (fmt.sign a ≠ fmt.sign b → y = false → (fmt.minimum y a b).isZero true ∧ (fmt.maximum y a b).isZero false)) ∧
  ((fmt.datum a).isNaN = true → (fmt.datum b).isNaN = true →
    (fmt.minimum y a b).isNaN ((fmt.datum a).isSignaling = true ∨ (fmt.datum b).isSignaling = true) ∧
    (fmt.maximum y a b).isNaN ((fmt.datum a).isSignaling = true ∨ (fmt.datum b).isSignaling = true)) ∧
  ((fmt.datum a).isNaN = true → (fmt.datum b).isNaN = false →
    ((fmt.datum a).isSignaling = false →
      fmt.minimum y a b = ⟨b, .none⟩ ∧ fmt.minimum y b a = ⟨b, .none⟩ ∧
      fmt.maximum y a b = ⟨b, .none⟩ ∧ fmt.maximum y b a = ⟨b, .none⟩) ∧
    ((fmt.datum a).isSignaling = true → y = false →
      fmt.minimum y a b = ⟨b, .nv⟩ ∧ fmt.minimum y b a = ⟨b, .nv⟩ ∧
      fmt.maximum y a b = ⟨b, .nv⟩ ∧ fmt.maximum y b a = ⟨b, .nv⟩) ∧
    ((fmt.datum a).isSignaling = true → y = true →
      (fmt.minimum y a b).isNaN True ∧ (fmt.minimum y b a).isNaN True ∧
      (fmt.maximum y a b).isNaN True ∧ (fmt.maximum y b a).isNaN True))

/-- With the extension of the format, each comparison reads its operands through the NaN-boxing check, writes 1 to
x[rd] if the relation holds and 0 if not, accrues its flags, and changes nothing else but pc. Formalises:
spec/45_rv32f_rv64f.md, Common floating-point rules. -/
def Obligations.FloatComparisonCompletes : Prop :=
  ∀ (s : State) (rd rs1 rs2 : RegNum),
  (s.cfg.extF = true → CompletesXFlags (.fleS rd rs1 rs2) s rd (if (Fmt.le .s (s.readF .s rs1) (s.readF .s
      rs2)).holds then 1 else 0)
    (Fmt.le .s (s.readF .s rs1) (s.readF .s rs2)).flags) ∧
  (s.cfg.extF = true → CompletesXFlags (.fltS rd rs1 rs2) s rd (if (Fmt.lt .s (s.readF .s rs1) (s.readF .s
      rs2)).holds then 1 else 0)
    (Fmt.lt .s (s.readF .s rs1) (s.readF .s rs2)).flags) ∧
  (s.cfg.extF = true → CompletesXFlags (.feqS rd rs1 rs2) s rd (if (Fmt.eq .s (s.readF .s rs1) (s.readF .s
      rs2)).holds then 1 else 0)
    (Fmt.eq .s (s.readF .s rs1) (s.readF .s rs2)).flags) ∧
  (s.cfg.extD = true → CompletesXFlags (.fleD rd rs1 rs2) s rd (if (Fmt.le .d (s.readF .d rs1) (s.readF .d
      rs2)).holds then 1 else 0)
    (Fmt.le .d (s.readF .d rs1) (s.readF .d rs2)).flags) ∧
  (s.cfg.extD = true → CompletesXFlags (.fltD rd rs1 rs2) s rd (if (Fmt.lt .d (s.readF .d rs1) (s.readF .d
      rs2)).holds then 1 else 0)
    (Fmt.lt .d (s.readF .d rs1) (s.readF .d rs2)).flags) ∧
  (s.cfg.extD = true → CompletesXFlags (.feqD rd rs1 rs2) s rd (if (Fmt.eq .d (s.readF .d rs1) (s.readF .d
      rs2)).holds then 1 else 0)
    (Fmt.eq .d (s.readF .d rs1) (s.readF .d rs2)).flags) ∧
  (s.cfg.extQ = true → CompletesXFlags (.fleQ rd rs1 rs2) s rd (if (Fmt.le .q (s.readF .q rs1) (s.readF .q
      rs2)).holds then 1 else 0)
    (Fmt.le .q (s.readF .q rs1) (s.readF .q rs2)).flags) ∧
  (s.cfg.extQ = true → CompletesXFlags (.fltQ rd rs1 rs2) s rd (if (Fmt.lt .q (s.readF .q rs1) (s.readF .q
      rs2)).holds then 1 else 0)
    (Fmt.lt .q (s.readF .q rs1) (s.readF .q rs2)).flags) ∧
  (s.cfg.extQ = true → CompletesXFlags (.feqQ rd rs1 rs2) s rd (if (Fmt.eq .q (s.readF .q rs1) (s.readF .q
      rs2)).holds then 1 else 0)
    (Fmt.eq .q (s.readF .q rs1) (s.readF .q rs2)).flags)

/-- With the extension of the format and a valid rounding mode (and XLEN = 64 for the 64-bit targets), each writes
the converted integer to x[rd], a 32-bit result sign-extended from bit 31, accrues its flags, and changes nothing
else but pc. Formalises: spec/45_rv32f_rv64f.md, Common floating-point rules. -/
def Obligations.FloatToIntegerCompletes : Prop :=
  ∀ (s : State) (rd rs1 : RegNum) (rm : BitVec 3) (mode : RoundMode), s.roundMode rm = some mode →
  (s.cfg.extF = true → CompletesXFlags (.fcvtWS rd rs1 rm) s rd
    (wrap s.xlen (asSigned 32 (wrap 32 (Fmt.toInt .s mode .w (s.readF .s rs1)).value)))
    (Fmt.toInt .s mode .w (s.readF .s rs1)).flags) ∧
  (s.cfg.extF = true → CompletesXFlags (.fcvtWuS rd rs1 rm) s rd
    (wrap s.xlen (asSigned 32 (wrap 32 (Fmt.toInt .s mode .wu (s.readF .s rs1)).value)))
    (Fmt.toInt .s mode .wu (s.readF .s rs1)).flags) ∧
  (s.cfg.extF = true → s.xlen = 64 → CompletesXFlags (.fcvtLS rd rs1 rm) s rd
    (wrap s.xlen (asSigned 64 (wrap 64 (Fmt.toInt .s mode .l (s.readF .s rs1)).value)))
    (Fmt.toInt .s mode .l (s.readF .s rs1)).flags) ∧
  (s.cfg.extF = true → s.xlen = 64 → CompletesXFlags (.fcvtLuS rd rs1 rm) s rd
    (wrap s.xlen (asSigned 64 (wrap 64 (Fmt.toInt .s mode .lu (s.readF .s rs1)).value)))
    (Fmt.toInt .s mode .lu (s.readF .s rs1)).flags) ∧
  (s.cfg.extD = true → CompletesXFlags (.fcvtWD rd rs1 rm) s rd
    (wrap s.xlen (asSigned 32 (wrap 32 (Fmt.toInt .d mode .w (s.readF .d rs1)).value)))
    (Fmt.toInt .d mode .w (s.readF .d rs1)).flags) ∧
  (s.cfg.extD = true → CompletesXFlags (.fcvtWuD rd rs1 rm) s rd
    (wrap s.xlen (asSigned 32 (wrap 32 (Fmt.toInt .d mode .wu (s.readF .d rs1)).value)))
    (Fmt.toInt .d mode .wu (s.readF .d rs1)).flags) ∧
  (s.cfg.extD = true → s.xlen = 64 → CompletesXFlags (.fcvtLD rd rs1 rm) s rd
    (wrap s.xlen (asSigned 64 (wrap 64 (Fmt.toInt .d mode .l (s.readF .d rs1)).value)))
    (Fmt.toInt .d mode .l (s.readF .d rs1)).flags) ∧
  (s.cfg.extD = true → s.xlen = 64 → CompletesXFlags (.fcvtLuD rd rs1 rm) s rd
    (wrap s.xlen (asSigned 64 (wrap 64 (Fmt.toInt .d mode .lu (s.readF .d rs1)).value)))
    (Fmt.toInt .d mode .lu (s.readF .d rs1)).flags) ∧
  (s.cfg.extQ = true → CompletesXFlags (.fcvtWQ rd rs1 rm) s rd
    (wrap s.xlen (asSigned 32 (wrap 32 (Fmt.toInt .q mode .w (s.readF .q rs1)).value)))
    (Fmt.toInt .q mode .w (s.readF .q rs1)).flags) ∧
  (s.cfg.extQ = true → CompletesXFlags (.fcvtWuQ rd rs1 rm) s rd
    (wrap s.xlen (asSigned 32 (wrap 32 (Fmt.toInt .q mode .wu (s.readF .q rs1)).value)))
    (Fmt.toInt .q mode .wu (s.readF .q rs1)).flags) ∧
  (s.cfg.extQ = true → s.xlen = 64 → CompletesXFlags (.fcvtLQ rd rs1 rm) s rd
    (wrap s.xlen (asSigned 64 (wrap 64 (Fmt.toInt .q mode .l (s.readF .q rs1)).value)))
    (Fmt.toInt .q mode .l (s.readF .q rs1)).flags) ∧
  (s.cfg.extQ = true → s.xlen = 64 → CompletesXFlags (.fcvtLuQ rd rs1 rm) s rd
    (wrap s.xlen (asSigned 64 (wrap 64 (Fmt.toInt .q mode .lu (s.readF .q rs1)).value)))
    (Fmt.toInt .q mode .lu (s.readF .q rs1)).flags)

/-- With the extension of the format and a valid rounding mode (and XLEN = 64 for the 64-bit sources), each converts
the low word or the whole of x[rs1], read as signed or unsigned, writes the rounded result to f[rd] NaN-boxed,
accrues its flags, and changes nothing else but pc. Formalises: spec/45_rv32f_rv64f.md, Common floating-point rules.
-/
def Obligations.IntegerToFloatCompletes : Prop :=
  ∀ (s : State) (rd rs1 : RegNum) (rm : BitVec 3) (mode : RoundMode), s.roundMode rm = some mode →
  (s.cfg.extF = true → CompletesF (.fcvtSW rd rs1 rm) s rd (Fmt.ofInt .s mode (s.wInt rs1))) ∧
  (s.cfg.extF = true → CompletesF (.fcvtSWu rd rs1 rm) s rd (Fmt.ofInt .s mode (s.wNat rs1))) ∧
  (s.cfg.extF = true → s.xlen = 64 → CompletesF (.fcvtSL rd rs1 rm) s rd (Fmt.ofInt .s mode (s.xInt rs1))) ∧
  (s.cfg.extF = true → s.xlen = 64 → CompletesF (.fcvtSLu rd rs1 rm) s rd (Fmt.ofInt .s mode (s.xNat rs1))) ∧
  (s.cfg.extD = true → CompletesF (.fcvtDW rd rs1 rm) s rd (Fmt.ofInt .d mode (s.wInt rs1))) ∧
  (s.cfg.extD = true → CompletesF (.fcvtDWu rd rs1 rm) s rd (Fmt.ofInt .d mode (s.wNat rs1))) ∧
  (s.cfg.extD = true → s.xlen = 64 → CompletesF (.fcvtDL rd rs1 rm) s rd (Fmt.ofInt .d mode (s.xInt rs1))) ∧
  (s.cfg.extD = true → s.xlen = 64 → CompletesF (.fcvtDLu rd rs1 rm) s rd (Fmt.ofInt .d mode (s.xNat rs1))) ∧
  (s.cfg.extQ = true → CompletesF (.fcvtQW rd rs1 rm) s rd (Fmt.ofInt .q mode (s.wInt rs1))) ∧
  (s.cfg.extQ = true → CompletesF (.fcvtQWu rd rs1 rm) s rd (Fmt.ofInt .q mode (s.wNat rs1))) ∧
  (s.cfg.extQ = true → s.xlen = 64 → CompletesF (.fcvtQL rd rs1 rm) s rd (Fmt.ofInt .q mode (s.xInt rs1))) ∧
  (s.cfg.extQ = true → s.xlen = 64 → CompletesF (.fcvtQLu rd rs1 rm) s rd (Fmt.ofInt .q mode (s.xNat rs1)))

/-- fmv.x.s and fmv.x.d copy the low bits of f[rs1] as they are, sign-extended, to x[rd]; fmv.s.x and fmv.d.x copy
the low bits of x[rs1], NaN-boxed, to f[rd]; no flags, nothing else changes but pc; the .d moves at XLEN = 64.
Formalises: R333; R335; R379; R382. -/
def Obligations.RegisterMoveResults : Prop :=
  ∀ (s : State) (rd rs1 : RegNum),
  Row (.fmvXS rd rs1) 0xe0000053 0xfff0707f ∧
  Row (.fmvSX rd rs1) 0xf0000053 0xfff0707f ∧
  Row (.fmvXD rd rs1) 0xe2000053 0xfff0707f ∧
  Row (.fmvDX rd rs1) 0xf2000053 0xfff0707f ∧
  (s.cfg.extF = true → CompletesX (.fmvXS rd rs1) s rd (wrap s.xlen (asSigned 32 (s.fNat rs1 % 2 ^ 32)))) ∧
  (s.cfg.extF = true → CompletesFBits (.fmvSX rd rs1) s rd 32 (s.xNat rs1 % 2 ^ 32)) ∧
  (s.cfg.extD = true → s.xlen = 64 → CompletesX (.fmvXD rd rs1) s rd (s.fNat rs1 % 2 ^ 64)) ∧
  (s.cfg.extD = true → s.xlen = 64 → CompletesFBits (.fmvDX rd rs1) s rd 64 (s.xNat rs1))

/-- With the extension of the format, fclass writes to x[rd] the mask of the class of the boxing-checked operand
(minus infinity, negative normal, negative subnormal, -0, +0, positive subnormal, positive normal, plus infinity,
signaling NaN, quiet NaN are bits 0 to 9), sets no flag and changes nothing else but pc. Formalises: R303. -/
def Obligations.ClassifyResults : Prop :=
  ∀ (s : State) (rd rs1 : RegNum),
  (s.cfg.extF = true → CompletesX (.fclassS rd rs1) s rd (2 ^ classOf 8 23 (s.readF .s rs1).toNat)) ∧
  (s.cfg.extD = true → CompletesX (.fclassD rd rs1) s rd (2 ^ classOf 11 52 (s.readF .d rs1).toNat)) ∧
  (s.cfg.extQ = true → CompletesX (.fclassQ rd rs1) s rd (2 ^ classOf 15 112 (s.readF .q rs1).toNat))

/-- The two RV128Q rows have encodings, and under every parameters they raise IllegalInstruction with their word.
Formalises: R436; R437. -/
def Obligations.Rv128RowsAreIllegal : Prop :=
  ∀ (s : State) (rd rs1 : RegNum),
  Row (.fmvXQ rd rs1) 0xe6000053 0xfff0707f ∧
  Row (.fmvQX rd rs1) 0xf6000053 0xfff0707f ∧
  Illegal (.fmvXQ rd rs1) s ∧
  Illegal (.fmvQX rd rs1) s

/-- For every instruction: if the table of the source that has its row is not available under the parameters, or if
it has an rm field that is 101 or 110, or is 111 while frm holds 101, 110 or 111 (also where its result could not
depend on the mode), exec raises IllegalInstruction with the word of the instruction. Formalises:
spec/45_rv32f_rv64f.md, Common floating-point rules; spec/00_scope.md, Implementation parameters;
spec/30_encoding.md, Illegal, reserved, hint and custom encodings. -/
def Obligations.ReservedModesAndAbsentRowsAreIllegal : Prop :=
  ∀ (i : Instr) (s : State),
  (s.cfg.has i.tableOf = false → Illegal i s) ∧
  ∀ rm : BitVec 3, i.rmOf = some rm → (rm = 0b101 ∨ rm = 0b110 ∨ (rm = 0b111 ∧ 5 ≤ s.frm.toNat)) → Illegal i s

/-- For every instruction and state: if exec gives a next state, every integer register but the destination of an
instruction that writes an integer register is unchanged, and so is every floating-point register but the
destination of one that writes a floating-point register. Formalises: spec/10_state.md, General registers;
spec/10_state.md, Floating-point registers and status. -/
def Obligations.OnlyDestinationsChangeRegisters : Prop :=
  ∀ (i : Instr) (s t : State) (r : RegNum), exec i s = .next t →
  (i.xDest ≠ some r → t.xNat r = s.xNat r) ∧ (i.fDest ≠ some r → t.fNat r = s.fNat r)

/-- For every instruction, state and address: if exec gives a next state and the address is not among the bytes at
the computed address of a store, sc or AMO (there are none for every other instruction), the byte reads as before.
Formalises: spec/20_memory.md, The address space and the two primitives; spec/20_memory.md, Widths, atomicity, side
effects. -/
def Obligations.OnlyStoresChangeMemory : Prop :=
  ∀ (i : Instr) (s t : State) (a : Nat), exec i s = .next t →
  (∀ p : Nat × Nat, i.storesTo s = some p → ∀ k < p.2, a ≠ (p.1 + k) % 2 ^ s.xlen) →
  Memory.read t.mem a = Memory.read s.mem a

/-- For every instruction and state: if exec gives a next state, an address whose byte reads differently is in the
set of written bytes afterwards, and, unless the instruction is fence.i, no address leaves that set. Formalises:
spec/20_memory.md, Memory ordering. -/
def Obligations.ChangedBytesAreRemembered : Prop :=
  ∀ (i : Instr) (s t : State) (a : Nat), exec i s = .next t →
  (Memory.read t.mem a ≠ Memory.read s.mem a → a ∈ t.dirty) ∧
  ((∀ imm rs1 rd, i ≠ .fenceI imm rs1 rd) → a ∈ s.dirty → a ∈ t.dirty)

/-- For every instruction other than lr and sc, and every state: if exec gives a next state, the reservation is what
it was; stores, AMOs and fences leave it alone. Formalises: spec/43_rv32a_rv64a.md, Common rules; spec/10_state.md,
Load reservation. -/
def Obligations.OnlyLrAndScChangeReservation : Prop :=
  ∀ (i : Instr) (s t : State), i.writesReservation = false → exec i s = .next t → t.lr = s.lr

/-- For every instruction that is no CSR instruction, and every state: if exec gives a next state, every flag that
was set is still set, and frm is unchanged (a static rm field does not write it). Formalises:
spec/45_rv32f_rv64f.md, Common floating-point rules; spec/10_state.md, Floating-point registers and status. -/
def Obligations.OnlyCsrWritesClearFlags : Prop :=
  ∀ (i : Instr) (s t : State), i.isCsr = false → exec i s = .next t →
  s.fflags ||| t.fflags = t.fflags ∧ t.frm = s.frm

/-- For every instruction and state: if exec ends in a trap, the pc it records is that of the state, and if the trap
is IllegalInstruction the recorded value is the word of the instruction. Formalises: spec/60_exceptions.md,
Exceptions. -/
def Obligations.TrapsNameTheInstruction : Prop :=
  ∀ (i : Instr) (s : State) (e : Exception) (info pc : BitVec 64), exec i s = .fault (.trap e info pc) →
  pc = shown s.pcNat ∧ (e = .illegalInstruction → info = shown (encode i).toNat)

/-- Where the format fits FLEN: writing a datum NaN-boxed and reading it in the same format gives it back and leaves
the other registers; reading a register whose bits above the format are not all ones gives the canonical NaN of the
format (0x7fc00000 for single), and otherwise its low bits. Formalises: spec/45_rv32f_rv64f.md, Common
floating-point rules. -/
def Obligations.NaNBoxingRoundTrip : Prop :=
  ∀ (s : State) (fmt : Fmt) (r : RegNum) (v : fmt.Bits), fmt.width ≤ s.flen →
  (s.writeF r v).readF fmt r = v ∧ FIs s (s.writeF r v) r (s.box fmt.width v.toNat) ∧
  (s.fNat r < 2 ^ s.flen - 2 ^ fmt.width → s.readF fmt r = fmt.canonicalNaN) ∧
  (2 ^ s.flen - 2 ^ fmt.width ≤ s.fNat r → (s.readF fmt r).toNat = s.fNat r % 2 ^ fmt.width) ∧
  Fmt.canonicalNaN .s = 0x7fc00000#32

/-- For a magnitude m * 2^e rounded at a place 2^q above its unit, with d = q - e: it is inexact exactly if 2^d does
not divide m; toward zero, down and up give the neighbour the sign says; to nearest gives a neighbour at most half a
unit away, with a tie to the even one (RNE) or the larger magnitude (RMM). Formalises: spec/45_rv32f_rv64f.md,
Common floating-point rules. -/
def Obligations.RoundingToUnits : Prop :=
  ∀ (mode : RoundMode) (neg : Bool) (m : Nat) (e : Int) (d : Nat), 0 < d →
  (((roundTo mode neg ⟨m, e, false⟩ (e + d)).inexact = true ↔ m % 2 ^ d ≠ 0) ∧
  (mode = .rtz → (roundTo mode neg ⟨m, e, false⟩ (e + d)).n = m / 2 ^ d) ∧
  (mode = .rdn → (roundTo mode neg ⟨m, e, false⟩ (e + d)).n = if neg then (m + 2 ^ d - 1) / 2 ^ d else m / 2 ^ d) ∧
  (mode = .rup → (roundTo mode neg ⟨m, e, false⟩ (e + d)).n = if neg then m / 2 ^ d else (m + 2 ^ d - 1) / 2 ^ d) ∧
  (mode = .rne ∨ mode = .rmm →
    2 * m ≤ 2 * (roundTo mode neg ⟨m, e, false⟩ (e + d)).n * 2 ^ d + 2 ^ d ∧
    2 * (roundTo mode neg ⟨m, e, false⟩ (e + d)).n * 2 ^ d ≤ 2 * m + 2 ^ d) ∧
  (2 * (m % 2 ^ d) = 2 ^ d →
    (mode = .rne → (roundTo mode neg ⟨m, e, false⟩ (e + d)).n % 2 = 0) ∧
    (mode = .rmm → (roundTo mode neg ⟨m, e, false⟩ (e + d)).n = m / 2 ^ d + 1)))

/-- For every format, mode and pattern that stands for a number (zero, subnormal or normal), rounding that number to
the format gives exactly the pattern and raises no flag: the reading of the bits and the rounding to them are
inverse. Formalises: spec/45_rv32f_rv64f.md, Common floating-point rules. -/
def Obligations.RepresentableNumbersAreExact : Prop :=
  ∀ (fmt : Fmt) (mode : RoundMode) (b : fmt.Bits) (neg : Bool) (m : Nat) (e : Int),
  fmt.datum b = .num neg m e → fmt.roundExact mode neg m e = ⟨b, .none⟩

/-- For every format, mode and operands: if the result of an addition, subtraction, multiplication, division, square
root, fused multiply-add, conversion between formats, or a minimum or maximum of two NaNs is a NaN, it is the
canonical NaN of the result format, whatever the payloads of the operands. With a NaN operand each delivers it, with
NV exactly if an operand is signaling (for a fused multiply-add also if the factors are infinity and zero); it is
delivered with NV for the sum of opposite and the difference of equal infinities, zero times infinity, 0 / 0,
infinity by infinity, the root of a number below zero or of minus infinity, and a product of infinity plus the
opposite infinity. A subtraction is the addition of the negated operand, and fmsub, fnmsub, fnmadd are fmadd with
the addend, a factor, or both negated. Formalises: spec/45_rv32f_rv64f.md, Common floating-point rules. -/
def Obligations.NaNResultsAreCanonical : Prop :=
  ∀ (fmt dst : Fmt) (mode : RoundMode) (y : Bool) (a b c : fmt.Bits),
  ((fmt.datum (fmt.add mode a b).bits).isNaN = true → (fmt.add mode a b).bits = fmt.canonicalNaN) ∧
  ((fmt.datum (fmt.sub mode a b).bits).isNaN = true → (fmt.sub mode a b).bits = fmt.canonicalNaN) ∧
  ((fmt.datum (fmt.mul mode a b).bits).isNaN = true → (fmt.mul mode a b).bits = fmt.canonicalNaN) ∧
  ((fmt.datum (fmt.div mode a b).bits).isNaN = true → (fmt.div mode a b).bits = fmt.canonicalNaN) ∧
  ((fmt.datum (fmt.sqrt mode a).bits).isNaN = true → (fmt.sqrt mode a).bits = fmt.canonicalNaN) ∧
  ((fmt.datum (fmt.fmadd mode a b c).bits).isNaN = true → (fmt.fmadd mode a b c).bits = fmt.canonicalNaN) ∧
  ((fmt.datum (fmt.fmsub mode a b c).bits).isNaN = true → (fmt.fmsub mode a b c).bits = fmt.canonicalNaN) ∧
  ((fmt.datum (fmt.fnmadd mode a b c).bits).isNaN = true → (fmt.fnmadd mode a b c).bits = fmt.canonicalNaN) ∧
  ((fmt.datum (fmt.fnmsub mode a b c).bits).isNaN = true → (fmt.fnmsub mode a b c).bits = fmt.canonicalNaN) ∧
  ((dst.datum (fmt.convert dst mode a).bits).isNaN = true → (fmt.convert dst mode a).bits = dst.canonicalNaN) ∧
  ((fmt.datum a).isNaN = true → (fmt.datum b).isNaN = true →
    (fmt.minimum y a b).bits = fmt.canonicalNaN ∧ (fmt.maximum y a b).bits = fmt.canonicalNaN) ∧
  (fmt.sub mode a b = fmt.add mode a (fmt.negated b) ∧
    fmt.fmsub mode a b c = fmt.fmadd mode a b (fmt.negated c) ∧
    fmt.fnmsub mode a b c = fmt.fmadd mode a (fmt.negated b) c ∧
    fmt.fnmadd mode a b c = fmt.fmadd mode a (fmt.negated b) (fmt.negated c)) ∧
  ((fmt.datum a).isNaN = true ∨ (fmt.datum b).isNaN = true →
    (fmt.add mode a b).isNaN ((fmt.datum a).isSignaling = true ∨ (fmt.datum b).isSignaling = true) ∧
    (fmt.sub mode a b).isNaN ((fmt.datum a).isSignaling = true ∨ (fmt.datum b).isSignaling = true) ∧
    (fmt.mul mode a b).isNaN ((fmt.datum a).isSignaling = true ∨ (fmt.datum b).isSignaling = true) ∧
    (fmt.div mode a b).isNaN ((fmt.datum a).isSignaling = true ∨ (fmt.datum b).isSignaling = true)) ∧
  ((fmt.datum a).isNaN = true →
    (fmt.sqrt mode a).isNaN ((fmt.datum a).isSignaling = true) ∧
    (fmt.convert dst mode a).isNaN ((fmt.datum a).isSignaling = true)) ∧
  ((fmt.datum a).isNaN = true ∨ (fmt.datum b).isNaN = true ∨ (fmt.datum c).isNaN = true →
    (fmt.fmadd mode a b c).isNaN ((fmt.datum a).isSignaling = true ∨ (fmt.datum b).isSignaling = true ∨
      (fmt.datum c).isSignaling = true ∨ ((∃ n, fmt.datum a = .inf n) ∧ fmt.isZero b = true) ∨
      (fmt.isZero a = true ∧ ∃ n, fmt.datum b = .inf n))) ∧
  (∀ n, fmt.datum a = .inf n →
    (fmt.datum b = .inf (!n) → (fmt.add mode a b).isNaN True) ∧
    (fmt.datum b = .inf n → (fmt.sub mode a b).isNaN True) ∧
    (fmt.isZero b = true → (fmt.mul mode a b).isNaN True ∧ (fmt.mul mode b a).isNaN True) ∧
    (∀ k, fmt.datum b = .inf k → (fmt.div mode a b).isNaN True) ∧
    (n = true → (fmt.sqrt mode a).isNaN True) ∧
    (fmt.isZero b = true → (fmt.fmadd mode a b c).isNaN True ∧ (fmt.fmadd mode b a c).isNaN True) ∧
    ((fmt.datum b).isNaN = false → fmt.isZero b = false → fmt.datum c = .inf (!(n ^^ fmt.sign b)) →
      (fmt.fmadd mode a b c).isNaN True ∧ (fmt.fmadd mode b a c).isNaN True)) ∧
  (fmt.isZero a = true → fmt.isZero b = true → (fmt.div mode a b).isNaN True) ∧
  ((fmt.datum a).isFinite = true → (fmt.datum a).value < 0 → (fmt.sqrt mode a).isNaN True)

/-- For finite operands a, b, d and a finite c that is not zero: if the sum, difference, product, quotient, root, or
the product plus or minus d, negated or not, of the values is the value of c, the operation delivers exactly c and
raises no flag; so do a conversion between formats and one from an integer. An exact zero sum has the sign of its
operands if they agree, else + or in RDN -; a product, quotient or root that is zero and a converted zero have the
sign of the rule, the integer 0 gives +0; none raises a flag. A sum, product, quotient, root or conversion of
infinities that is no NaN is the infinity of the rule with no flag, and a nonzero number by zero is one with DZ.
Formalises: spec/45_rv32f_rv64f.md, Common floating-point rules. -/
def Obligations.ExactResultsAreDelivered : Prop :=
  ∀ (fmt dst : Fmt) (mode : RoundMode) (a b c d : fmt.Bits) (e : dst.Bits),
  ((fmt.datum a).isFinite = true → (fmt.datum b).isFinite = true → (fmt.datum c).isFinite = true →
    (fmt.datum d).isFinite = true → (dst.datum e).isFinite = true →
    ((fmt.datum c).value ≠ 0 →
      ((fmt.datum a).value + (fmt.datum b).value = (fmt.datum c).value → fmt.add mode a b = ⟨c, .none⟩) ∧
      ((fmt.datum a).value - (fmt.datum b).value = (fmt.datum c).value → fmt.sub mode a b = ⟨c, .none⟩) ∧
      ((fmt.datum a).value * (fmt.datum b).value = (fmt.datum c).value → fmt.mul mode a b = ⟨c, .none⟩) ∧
      ((fmt.datum b).value ≠ 0 → (fmt.datum a).value / (fmt.datum b).value = (fmt.datum c).value →
        fmt.div mode a b = ⟨c, .none⟩) ∧
      (0 < (fmt.datum c).value → (fmt.datum c).value * (fmt.datum c).value = (fmt.datum a).value →
        fmt.sqrt mode a = ⟨c, .none⟩) ∧
      ((fmt.datum a).value * (fmt.datum b).value + (fmt.datum d).value = (fmt.datum c).value →
        fmt.fmadd mode a b d = ⟨c, .none⟩) ∧
      ((fmt.datum a).value * (fmt.datum b).value - (fmt.datum d).value = (fmt.datum c).value →
        fmt.fmsub mode a b d = ⟨c, .none⟩) ∧
      (-((fmt.datum a).value * (fmt.datum b).value) + (fmt.datum d).value = (fmt.datum c).value →
        fmt.fnmsub mode a b d = ⟨c, .none⟩) ∧
      (-((fmt.datum a).value * (fmt.datum b).value) - (fmt.datum d).value = (fmt.datum c).value →
        fmt.fnmadd mode a b d = ⟨c, .none⟩) ∧
      ∀ z : Int, (z : ℚ) = (fmt.datum c).value → fmt.ofInt mode z = ⟨c, .none⟩) ∧
    ((dst.datum e).value ≠ 0 → (fmt.datum a).value = (dst.datum e).value → fmt.convert dst mode a = ⟨e, .none⟩)) ∧
  ((fmt.datum a).isFinite = true → (fmt.datum b).isFinite = true → (fmt.datum d).isFinite = true →
    ((fmt.datum a).value + (fmt.datum b).value = 0 →
      (fmt.add mode a b).isZero (if fmt.sign a = fmt.sign b then fmt.sign a else decide (mode = .rdn))) ∧
    ((fmt.datum a).value - (fmt.datum b).value = 0 →
      (fmt.sub mode a b).isZero (if fmt.sign a = fmt.sign b then decide (mode = .rdn) else fmt.sign a)) ∧
    ((fmt.datum a).value * (fmt.datum b).value = 0 → (fmt.mul mode a b).isZero (fmt.sign a ^^ fmt.sign b)) ∧
    ((fmt.datum a).value = 0 → (fmt.datum b).value ≠ 0 → (fmt.div mode a b).isZero (fmt.sign a ^^ fmt.sign b)) ∧
    ((fmt.datum a).value = 0 → (fmt.sqrt mode a).isZero (fmt.sign a) ∧
      (fmt.convert dst mode a).isZero (fmt.sign a)) ∧
    ((fmt.datum a).value * (fmt.datum b).value + (fmt.datum d).value = 0 → (fmt.fmadd mode a b d).isZero
      (if (fmt.sign a ^^ fmt.sign b) = fmt.sign d then fmt.sign d else decide (mode = .rdn))) ∧
    ((fmt.datum a).value ≠ 0 → (fmt.datum b).value = 0 →
      (fmt.div mode a b).isInfinity (fmt.sign a ^^ fmt.sign b) True)) ∧
  (fmt.ofInt mode 0).isZero false ∧
  (∀ n, fmt.datum a = .inf n →
    ((fmt.datum b).isFinite = true ∨ fmt.datum b = .inf n →
      (fmt.add mode a b).isInfinity n False ∧ (fmt.add mode b a).isInfinity n False) ∧
    ((fmt.datum b).isNaN = false → fmt.isZero b = false →
      (fmt.mul mode a b).isInfinity (n ^^ fmt.sign b) False ∧ (fmt.mul mode b a).isInfinity (n ^^ fmt.sign b) False) ∧
    ((fmt.datum b).isFinite = true →
      (fmt.div mode a b).isInfinity (n ^^ fmt.sign b) False ∧ (fmt.div mode b a).isZero (n ^^ fmt.sign b)) ∧
    (n = false → (fmt.sqrt mode a).isInfinity false False) ∧
    (fmt.convert dst mode a).isInfinity n False ∧
    ((fmt.datum b).isNaN = false → fmt.isZero b = false →
      (fmt.datum d).isFinite = true ∨ fmt.datum d = .inf (n ^^ fmt.sign b) →
      (fmt.fmadd mode a b d).isInfinity (n ^^ fmt.sign b) False ∧
      (fmt.fmadd mode b a d).isInfinity (n ^^ fmt.sign b) False) ∧
    ((fmt.datum b).isFinite = true → (fmt.datum d).isFinite = true → (fmt.fmadd mode b d a).isInfinity n False))

/-- The finite data of a format are the numbers of its precision with units from that of the subnormals up, below
2^(emax+1). Every exact nonzero number x is rounded once: to the nearest of these with no upper bound of the
exponent, a tie to the even significand (RNE) or the larger magnitude (RMM), or to the nearest toward zero, below or
above; within the range that number is delivered with the sign of x, NX exactly if it differs from x, and UF exactly
if it differs and x rounded with no bound of the exponent at all is below the least normal number; beyond it
infinity or the largest finite number, as mode and sign say, with OF and NX. Formalises: spec/45_rv32f_rv64f.md,
Common floating-point rules. -/
def Obligations.RoundedResultsAreNearest : Prop :=
  ∀ (fmt : Fmt) (mode : RoundMode),
  (∀ v : ℝ, fmt.onGrid (some fmt.quantumMin) v ∧ |v| < 2 ^ (fmt.bias + 1) ↔
    ∃ b : fmt.Bits, (fmt.datum b).isFinite = true ∧ ((fmt.datum b).value : ℝ) = v) ∧
  ∀ (neg : Bool) (m : Nat) (e : Int), m ≠ 0 →
    Delivers mode ((Datum.num neg m e).value : ℝ) (fmt.roundExact mode neg m e)

/-- A NaN or plus infinity gives the greatest value of the type with NV, minus infinity the least with NV. For a
number with value x in mode RTZ, RDN or RUP let r be x truncated, its floor or its ceiling, and in the other two
modes the integer at most one half away from x, of two the even one (RNE) or the one of larger magnitude (RMM):
above the range the greatest value with NV, below it the least with NV, otherwise r, with NX exactly if r is not x.
Formalises: spec/45_rv32f_rv64f.md, Common floating-point rules. -/
def Obligations.ConversionToIntegerSaturates : Prop :=
  ∀ (fmt : Fmt) (mode : RoundMode) (t : IntType) (a : fmt.Bits),
  ((fmt.datum a).isNaN = true ∨ fmt.datum a = .inf false → fmt.toInt mode t a = ⟨t.hi, .nv⟩) ∧
  (fmt.datum a = .inf true → fmt.toInt mode t a = ⟨t.lo, .nv⟩) ∧
  ((fmt.datum a).isFinite = true → ∃ r : Int,
    (mode = .rdn → r = ⌊(fmt.datum a).value⌋) ∧ (mode = .rup → r = ⌈(fmt.datum a).value⌉) ∧
    (mode = .rtz → r = if 0 ≤ (fmt.datum a).value then ⌊(fmt.datum a).value⌋ else ⌈(fmt.datum a).value⌉) ∧
    (mode = .rne ∨ mode = .rmm → |(r : ℚ) - (fmt.datum a).value| ≤ 1 / 2) ∧
    (|(r : ℚ) - (fmt.datum a).value| = 1 / 2 →
      (mode = .rne → r % 2 = 0) ∧ (mode = .rmm → |(fmt.datum a).value| < |(r : ℚ)|)) ∧
    fmt.toInt mode t a =
      if t.hi < r then ⟨t.hi, .nv⟩ else if r < t.lo then ⟨t.lo, .nv⟩
      else ⟨r, if (r : ℚ) = (fmt.datum a).value then .none else .nx⟩)

/-- For every format: of finite operands lt, eq and le hold exactly if the value of the first is less than, equal
to, or at most that of the second, so +0 equals -0; minus infinity is less than every other operand and plus
infinity greater, each equal to itself; no flag is raised; with a NaN all three relations are false, flt and fle
raise NV, feq raises NV exactly if an operand is signaling. Formalises: spec/45_rv32f_rv64f.md, Common
floating-point rules. -/
def Obligations.ComparisonsOrderNumbers : Prop :=
  ∀ (fmt : Fmt) (a b : fmt.Bits),
  ((fmt.datum a).isFinite = true → (fmt.datum b).isFinite = true →
    ((fmt.lt a b).holds = true ↔ (fmt.datum a).value < (fmt.datum b).value) ∧
    ((fmt.eq a b).holds = true ↔ (fmt.datum a).value = (fmt.datum b).value) ∧
    ((fmt.le a b).holds = true ↔ (fmt.datum a).value ≤ (fmt.datum b).value)) ∧
  ((fmt.datum a).isNaN = false → (fmt.datum b).isNaN = false →
    ((fmt.lt a b).holds = true ↔ (fmt.datum a).place < (fmt.datum b).place) ∧
    ((fmt.eq a b).holds = true ↔ (fmt.datum a).place = (fmt.datum b).place) ∧
    ((fmt.le a b).holds = true ↔ (fmt.datum a).place ≤ (fmt.datum b).place) ∧
    (fmt.lt a b).flags = .none ∧ (fmt.eq a b).flags = .none ∧ (fmt.le a b).flags = .none) ∧
  ((fmt.datum a).isNaN = true ∨ (fmt.datum b).isNaN = true →
    (fmt.lt a b).holds = false ∧ (fmt.eq a b).holds = false ∧ (fmt.le a b).holds = false ∧
    (fmt.lt a b).flags = .nv ∧ (fmt.le a b).flags = .nv ∧
    ((fmt.eq a b).flags = .nv ↔ (fmt.datum a).isSignaling = true ∨ (fmt.datum b).isSignaling = true) ∧
    ((fmt.eq a b).flags = .nv ∨ (fmt.eq a b).flags = .none))

/-- For finite operands whose exact result is not zero, the sum, difference, product, quotient, square root, the
four fused multiply-adds (a*b+c, a*b-c, -(a*b)+c, -(a*b)-c), the conversion of an integer and the conversion between
formats deliver the exact real result rounded once to the format in the mode, with the sign of the result, and NX,
UF and OF as that rounding raises them and no other flag. Formalises: spec/45_rv32f_rv64f.md, Common floating-point
rules. -/
def Obligations.OperationsRoundTheExactResult : Prop :=
  ∀ (fmt dst : Fmt) (mode : RoundMode) (a b c : fmt.Bits) (x y z : ℚ),
  (fmt.datum a).isFinite = true → (fmt.datum b).isFinite = true → (fmt.datum c).isFinite = true →
  (fmt.datum a).value = x → (fmt.datum b).value = y → (fmt.datum c).value = z →
  (x + y ≠ 0 → Delivers mode ((x + y : ℚ) : ℝ) (fmt.add mode a b)) ∧
  (x - y ≠ 0 → Delivers mode ((x - y : ℚ) : ℝ) (fmt.sub mode a b)) ∧
  (x * y ≠ 0 → Delivers mode ((x * y : ℚ) : ℝ) (fmt.mul mode a b)) ∧
  (x ≠ 0 → y ≠ 0 → Delivers mode ((x / y : ℚ) : ℝ) (fmt.div mode a b)) ∧
  (0 < x → Delivers mode (Real.sqrt x) (fmt.sqrt mode a)) ∧
  (x * y + z ≠ 0 → Delivers mode ((x * y + z : ℚ) : ℝ) (fmt.fmadd mode a b c)) ∧
  (x * y - z ≠ 0 → Delivers mode ((x * y - z : ℚ) : ℝ) (fmt.fmsub mode a b c)) ∧
  (-(x * y) + z ≠ 0 → Delivers mode ((-(x * y) + z : ℚ) : ℝ) (fmt.fnmsub mode a b c)) ∧
  (-(x * y) - z ≠ 0 → Delivers mode ((-(x * y) - z : ℚ) : ℝ) (fmt.fnmadd mode a b c)) ∧
  (x ≠ 0 → Delivers mode (x : ℝ) (fmt.convert dst mode a)) ∧
  ∀ n : Int, n ≠ 0 → Delivers mode (n : ℝ) (fmt.ofInt mode n)
end

