-- ==== Sys2Proof/Laws/State.lean ====
section
/-! SUPPORT. One lemma per field and update: what each update of the state leaves as it is and what it changes. -/

namespace Sys2Proof.Machine

variable (s : State)

/-! ### `setX` -/

@[simp] theorem State.setX_cfg {n : Nat} (r : RegNum) (v : BitVec n) : (s.setX r v).cfg = s.cfg := by unfold State.setX; split <;> rfl
@[simp] theorem State.setX_pc {n : Nat} (r : RegNum) (v : BitVec n) : (s.setX r v).pc = s.pc := by unfold State.setX; split <;> rfl
@[simp] theorem State.setX_f {n : Nat} (r : RegNum) (v : BitVec n) : (s.setX r v).f = s.f := by unfold State.setX; split <;> rfl
@[simp] theorem State.setX_frm {n : Nat} (r : RegNum) (v : BitVec n) : (s.setX r v).frm = s.frm := by unfold State.setX; split <;> rfl
@[simp] theorem State.setX_fflags {n : Nat} (r : RegNum) (v : BitVec n) : (s.setX r v).fflags = s.fflags := by unfold State.setX; split <;> rfl
@[simp] theorem State.setX_lr {n : Nat} (r : RegNum) (v : BitVec n) : (s.setX r v).lr = s.lr := by unfold State.setX; split <;> rfl
@[simp] theorem State.setX_mem {n : Nat} (r : RegNum) (v : BitVec n) : (s.setX r v).mem = s.mem := by unfold State.setX; split <;> rfl
@[simp] theorem State.setX_dirty {n : Nat} (r : RegNum) (v : BitVec n) : (s.setX r v).dirty = s.dirty := by unfold State.setX; split <;> rfl
@[simp] theorem State.setX_draws {n : Nat} (r : RegNum) (v : BitVec n) : (s.setX r v).draws = s.draws := by unfold State.setX; split <;> rfl
@[simp] theorem State.setX_xlen {n : Nat} (r : RegNum) (v : BitVec n) : (s.setX r v).xlen = s.xlen := by simp [State.xlen]
@[simp] theorem State.setX_flen {n : Nat} (r : RegNum) (v : BitVec n) : (s.setX r v).flen = s.flen := by simp [State.flen]

/-! ### `setPc` -/

@[simp] theorem State.setPc_cfg {n : Nat} (t : BitVec n) : (s.setPc t).cfg = s.cfg := rfl
@[simp] theorem State.setPc_x {n : Nat} (t : BitVec n) : (s.setPc t).x = s.x := rfl
@[simp] theorem State.setPc_pc {n : Nat} (t : BitVec n) : (s.setPc t).pc = (t.setWidth s.xlen).setWidth 64 := rfl
@[simp] theorem State.setPc_f {n : Nat} (t : BitVec n) : (s.setPc t).f = s.f := rfl
@[simp] theorem State.setPc_frm {n : Nat} (t : BitVec n) : (s.setPc t).frm = s.frm := rfl
@[simp] theorem State.setPc_fflags {n : Nat} (t : BitVec n) : (s.setPc t).fflags = s.fflags := rfl
@[simp] theorem State.setPc_lr {n : Nat} (t : BitVec n) : (s.setPc t).lr = s.lr := rfl
@[simp] theorem State.setPc_mem {n : Nat} (t : BitVec n) : (s.setPc t).mem = s.mem := rfl
@[simp] theorem State.setPc_dirty {n : Nat} (t : BitVec n) : (s.setPc t).dirty = s.dirty := rfl
@[simp] theorem State.setPc_draws {n : Nat} (t : BitVec n) : (s.setPc t).draws = s.draws := rfl
@[simp] theorem State.setPc_xlen {n : Nat} (t : BitVec n) : (s.setPc t).xlen = s.xlen := rfl
@[simp] theorem State.setPc_flen {n : Nat} (t : BitVec n) : (s.setPc t).flen = s.flen := rfl

/-! ### `advance` -/

@[simp] theorem State.advance_cfg : (s.advance).cfg = s.cfg := rfl
@[simp] theorem State.advance_x : (s.advance).x = s.x := rfl
@[simp] theorem State.advance_pc : (s.advance).pc = (s.nextPc.setWidth s.xlen).setWidth 64 := rfl
@[simp] theorem State.advance_f : (s.advance).f = s.f := rfl
@[simp] theorem State.advance_frm : (s.advance).frm = s.frm := rfl
@[simp] theorem State.advance_fflags : (s.advance).fflags = s.fflags := rfl
@[simp] theorem State.advance_lr : (s.advance).lr = s.lr := rfl
@[simp] theorem State.advance_mem : (s.advance).mem = s.mem := rfl
@[simp] theorem State.advance_dirty : (s.advance).dirty = s.dirty := rfl
@[simp] theorem State.advance_draws : (s.advance).draws = s.draws := rfl
@[simp] theorem State.advance_xlen : (s.advance).xlen = s.xlen := rfl
@[simp] theorem State.advance_flen : (s.advance).flen = s.flen := rfl

/-! ### `setF` -/

@[simp] theorem State.setF_cfg {n : Nat} (r : RegNum) (v : BitVec n) : (s.setF r v).cfg = s.cfg := rfl
@[simp] theorem State.setF_x {n : Nat} (r : RegNum) (v : BitVec n) : (s.setF r v).x = s.x := rfl
@[simp] theorem State.setF_pc {n : Nat} (r : RegNum) (v : BitVec n) : (s.setF r v).pc = s.pc := rfl
@[simp] theorem State.setF_f {n : Nat} (r : RegNum) (v : BitVec n) : (s.setF r v).f = s.f.set r.toNat ((v.setWidth s.flen).setWidth 128) r.isLt := rfl
@[simp] theorem State.setF_frm {n : Nat} (r : RegNum) (v : BitVec n) : (s.setF r v).frm = s.frm := rfl
@[simp] theorem State.setF_fflags {n : Nat} (r : RegNum) (v : BitVec n) : (s.setF r v).fflags = s.fflags := rfl
@[simp] theorem State.setF_lr {n : Nat} (r : RegNum) (v : BitVec n) : (s.setF r v).lr = s.lr := rfl
@[simp] theorem State.setF_mem {n : Nat} (r : RegNum) (v : BitVec n) : (s.setF r v).mem = s.mem := rfl
@[simp] theorem State.setF_dirty {n : Nat} (r : RegNum) (v : BitVec n) : (s.setF r v).dirty = s.dirty := rfl
@[simp] theorem State.setF_draws {n : Nat} (r : RegNum) (v : BitVec n) : (s.setF r v).draws = s.draws := rfl
@[simp] theorem State.setF_xlen {n : Nat} (r : RegNum) (v : BitVec n) : (s.setF r v).xlen = s.xlen := rfl
@[simp] theorem State.setF_flen {n : Nat} (r : RegNum) (v : BitVec n) : (s.setF r v).flen = s.flen := rfl

/-! ### `writeF` -/

@[simp] theorem State.writeF_cfg {n : Nat} (r : RegNum) (v : BitVec n) : (s.writeF r v).cfg = s.cfg := rfl
@[simp] theorem State.writeF_x {n : Nat} (r : RegNum) (v : BitVec n) : (s.writeF r v).x = s.x := rfl
@[simp] theorem State.writeF_pc {n : Nat} (r : RegNum) (v : BitVec n) : (s.writeF r v).pc = s.pc := rfl
@[simp] theorem State.writeF_f {n : Nat} (r : RegNum) (v : BitVec n) : (s.writeF r v).f = s.f.set r.toNat (((boxed v).setWidth s.flen).setWidth 128) r.isLt := rfl
@[simp] theorem State.writeF_frm {n : Nat} (r : RegNum) (v : BitVec n) : (s.writeF r v).frm = s.frm := rfl
@[simp] theorem State.writeF_fflags {n : Nat} (r : RegNum) (v : BitVec n) : (s.writeF r v).fflags = s.fflags := rfl
@[simp] theorem State.writeF_lr {n : Nat} (r : RegNum) (v : BitVec n) : (s.writeF r v).lr = s.lr := rfl
@[simp] theorem State.writeF_mem {n : Nat} (r : RegNum) (v : BitVec n) : (s.writeF r v).mem = s.mem := rfl
@[simp] theorem State.writeF_dirty {n : Nat} (r : RegNum) (v : BitVec n) : (s.writeF r v).dirty = s.dirty := rfl
@[simp] theorem State.writeF_draws {n : Nat} (r : RegNum) (v : BitVec n) : (s.writeF r v).draws = s.draws := rfl
@[simp] theorem State.writeF_xlen {n : Nat} (r : RegNum) (v : BitVec n) : (s.writeF r v).xlen = s.xlen := rfl
@[simp] theorem State.writeF_flen {n : Nat} (r : RegNum) (v : BitVec n) : (s.writeF r v).flen = s.flen := rfl

/-! ### `drawn` -/

@[simp] theorem State.drawn_cfg : (s.drawn).cfg = s.cfg := rfl
@[simp] theorem State.drawn_x : (s.drawn).x = s.x := rfl
@[simp] theorem State.drawn_pc : (s.drawn).pc = s.pc := rfl
@[simp] theorem State.drawn_f : (s.drawn).f = s.f := rfl
@[simp] theorem State.drawn_frm : (s.drawn).frm = s.frm := rfl
@[simp] theorem State.drawn_fflags : (s.drawn).fflags = s.fflags := rfl
@[simp] theorem State.drawn_lr : (s.drawn).lr = s.lr := rfl
@[simp] theorem State.drawn_mem : (s.drawn).mem = s.mem := rfl
@[simp] theorem State.drawn_dirty : (s.drawn).dirty = s.dirty := rfl
@[simp] theorem State.drawn_draws : (s.drawn).draws = s.draws + 1 := rfl
@[simp] theorem State.drawn_xlen : (s.drawn).xlen = s.xlen := rfl
@[simp] theorem State.drawn_flen : (s.drawn).flen = s.flen := rfl

/-! ### `reserve` -/

@[simp] theorem State.reserve_cfg {n : Nat} (a : BitVec n) : (s.reserve a).cfg = s.cfg := rfl
@[simp] theorem State.reserve_x {n : Nat} (a : BitVec n) : (s.reserve a).x = s.x := rfl
@[simp] theorem State.reserve_pc {n : Nat} (a : BitVec n) : (s.reserve a).pc = s.pc := rfl
@[simp] theorem State.reserve_f {n : Nat} (a : BitVec n) : (s.reserve a).f = s.f := rfl
@[simp] theorem State.reserve_frm {n : Nat} (a : BitVec n) : (s.reserve a).frm = s.frm := rfl
@[simp] theorem State.reserve_fflags {n : Nat} (a : BitVec n) : (s.reserve a).fflags = s.fflags := rfl
@[simp] theorem State.reserve_lr {n : Nat} (a : BitVec n) : (s.reserve a).lr = some ((a.setWidth s.xlen).setWidth 64) := rfl
@[simp] theorem State.reserve_mem {n : Nat} (a : BitVec n) : (s.reserve a).mem = s.mem := rfl
@[simp] theorem State.reserve_dirty {n : Nat} (a : BitVec n) : (s.reserve a).dirty = s.dirty := rfl
@[simp] theorem State.reserve_draws {n : Nat} (a : BitVec n) : (s.reserve a).draws = s.draws := rfl
@[simp] theorem State.reserve_xlen {n : Nat} (a : BitVec n) : (s.reserve a).xlen = s.xlen := rfl
@[simp] theorem State.reserve_flen {n : Nat} (a : BitVec n) : (s.reserve a).flen = s.flen := rfl

/-! ### `clearReservation` -/

@[simp] theorem State.clearReservation_cfg : (s.clearReservation).cfg = s.cfg := rfl
@[simp] theorem State.clearReservation_x : (s.clearReservation).x = s.x := rfl
@[simp] theorem State.clearReservation_pc : (s.clearReservation).pc = s.pc := rfl
@[simp] theorem State.clearReservation_f : (s.clearReservation).f = s.f := rfl
@[simp] theorem State.clearReservation_frm : (s.clearReservation).frm = s.frm := rfl
@[simp] theorem State.clearReservation_fflags : (s.clearReservation).fflags = s.fflags := rfl
@[simp] theorem State.clearReservation_lr : (s.clearReservation).lr = none := rfl
@[simp] theorem State.clearReservation_mem : (s.clearReservation).mem = s.mem := rfl
@[simp] theorem State.clearReservation_dirty : (s.clearReservation).dirty = s.dirty := rfl
@[simp] theorem State.clearReservation_draws : (s.clearReservation).draws = s.draws := rfl
@[simp] theorem State.clearReservation_xlen : (s.clearReservation).xlen = s.xlen := rfl
@[simp] theorem State.clearReservation_flen : (s.clearReservation).flen = s.flen := rfl

/-! ### `accrue` -/

@[simp] theorem State.accrue_cfg (fl : FlagSet) : (s.accrue fl).cfg = s.cfg := rfl
@[simp] theorem State.accrue_x (fl : FlagSet) : (s.accrue fl).x = s.x := rfl
@[simp] theorem State.accrue_pc (fl : FlagSet) : (s.accrue fl).pc = s.pc := rfl
@[simp] theorem State.accrue_f (fl : FlagSet) : (s.accrue fl).f = s.f := rfl
@[simp] theorem State.accrue_frm (fl : FlagSet) : (s.accrue fl).frm = s.frm := rfl
@[simp] theorem State.accrue_fflags (fl : FlagSet) : (s.accrue fl).fflags = s.fflags ||| fl := rfl
@[simp] theorem State.accrue_lr (fl : FlagSet) : (s.accrue fl).lr = s.lr := rfl
@[simp] theorem State.accrue_mem (fl : FlagSet) : (s.accrue fl).mem = s.mem := rfl
@[simp] theorem State.accrue_dirty (fl : FlagSet) : (s.accrue fl).dirty = s.dirty := rfl
@[simp] theorem State.accrue_draws (fl : FlagSet) : (s.accrue fl).draws = s.draws := rfl
@[simp] theorem State.accrue_xlen (fl : FlagSet) : (s.accrue fl).xlen = s.xlen := rfl
@[simp] theorem State.accrue_flen (fl : FlagSet) : (s.accrue fl).flen = s.flen := rfl

/-! ### `writeByte` -/

@[simp] theorem State.writeByte_cfg (a : Nat) (b : Byte) : (s.writeByte a b).cfg = s.cfg := rfl
@[simp] theorem State.writeByte_x (a : Nat) (b : Byte) : (s.writeByte a b).x = s.x := rfl
@[simp] theorem State.writeByte_pc (a : Nat) (b : Byte) : (s.writeByte a b).pc = s.pc := rfl
@[simp] theorem State.writeByte_f (a : Nat) (b : Byte) : (s.writeByte a b).f = s.f := rfl
@[simp] theorem State.writeByte_frm (a : Nat) (b : Byte) : (s.writeByte a b).frm = s.frm := rfl
@[simp] theorem State.writeByte_fflags (a : Nat) (b : Byte) : (s.writeByte a b).fflags = s.fflags := rfl
@[simp] theorem State.writeByte_lr (a : Nat) (b : Byte) : (s.writeByte a b).lr = s.lr := rfl
@[simp] theorem State.writeByte_mem (a : Nat) (b : Byte) : (s.writeByte a b).mem = Memory.write s.mem a b := rfl
@[simp] theorem State.writeByte_dirty (a : Nat) (b : Byte) : (s.writeByte a b).dirty = AddrSet.insert s.dirty a := rfl
@[simp] theorem State.writeByte_draws (a : Nat) (b : Byte) : (s.writeByte a b).draws = s.draws := rfl
@[simp] theorem State.writeByte_xlen (a : Nat) (b : Byte) : (s.writeByte a b).xlen = s.xlen := rfl
@[simp] theorem State.writeByte_flen (a : Nat) (b : Byte) : (s.writeByte a b).flen = s.flen := rfl

/-! ### `writeBytes`, `csrRead`, `csrWrite` -/

@[simp] theorem State.writeBytes_cfg {n w : Nat} (a : BitVec n) (v : BitVec w) (c : Nat) :
    (s.writeBytes a v c).cfg = s.cfg := by
  induction c with
  | zero => rfl
  | succ k ih => simp [State.writeBytes, ih]
@[simp] theorem State.writeBytes_x {n w : Nat} (a : BitVec n) (v : BitVec w) (c : Nat) :
    (s.writeBytes a v c).x = s.x := by
  induction c with
  | zero => rfl
  | succ k ih => simp [State.writeBytes, ih]
@[simp] theorem State.writeBytes_pc {n w : Nat} (a : BitVec n) (v : BitVec w) (c : Nat) :
    (s.writeBytes a v c).pc = s.pc := by
  induction c with
  | zero => rfl
  | succ k ih => simp [State.writeBytes, ih]
@[simp] theorem State.writeBytes_f {n w : Nat} (a : BitVec n) (v : BitVec w) (c : Nat) :
    (s.writeBytes a v c).f = s.f := by
  induction c with
  | zero => rfl
  | succ k ih => simp [State.writeBytes, ih]
@[simp] theorem State.writeBytes_frm {n w : Nat} (a : BitVec n) (v : BitVec w) (c : Nat) :
    (s.writeBytes a v c).frm = s.frm := by
  induction c with
  | zero => rfl
  | succ k ih => simp [State.writeBytes, ih]
@[simp] theorem State.writeBytes_fflags {n w : Nat} (a : BitVec n) (v : BitVec w) (c : Nat) :
    (s.writeBytes a v c).fflags = s.fflags := by
  induction c with
  | zero => rfl
  | succ k ih => simp [State.writeBytes, ih]
@[simp] theorem State.writeBytes_lr {n w : Nat} (a : BitVec n) (v : BitVec w) (c : Nat) :
    (s.writeBytes a v c).lr = s.lr := by
  induction c with
  | zero => rfl
  | succ k ih => simp [State.writeBytes, ih]
@[simp] theorem State.writeBytes_draws {n w : Nat} (a : BitVec n) (v : BitVec w) (c : Nat) :
    (s.writeBytes a v c).draws = s.draws := by
  induction c with
  | zero => rfl
  | succ k ih => simp [State.writeBytes, ih]
@[simp] theorem State.writeBytes_xlen {n w : Nat} (a : BitVec n) (v : BitVec w) (c : Nat) :
    (s.writeBytes a v c).xlen = s.xlen := by simp [State.xlen]
@[simp] theorem State.writeBytes_flen {n w : Nat} (a : BitVec n) (v : BitVec w) (c : Nat) :
    (s.writeBytes a v c).flen = s.flen := by simp [State.flen]

@[simp] theorem State.csrRead_cfg (c : Csr) : (s.csrRead c).cfg = s.cfg := by unfold State.csrRead; split <;> rfl
@[simp] theorem State.csrRead_x (c : Csr) : (s.csrRead c).x = s.x := by unfold State.csrRead; split <;> rfl
@[simp] theorem State.csrRead_pc (c : Csr) : (s.csrRead c).pc = s.pc := by unfold State.csrRead; split <;> rfl
@[simp] theorem State.csrRead_f (c : Csr) : (s.csrRead c).f = s.f := by unfold State.csrRead; split <;> rfl
@[simp] theorem State.csrRead_frm (c : Csr) : (s.csrRead c).frm = s.frm := by unfold State.csrRead; split <;> rfl
@[simp] theorem State.csrRead_fflags (c : Csr) : (s.csrRead c).fflags = s.fflags := by unfold State.csrRead; split <;> rfl
@[simp] theorem State.csrRead_lr (c : Csr) : (s.csrRead c).lr = s.lr := by unfold State.csrRead; split <;> rfl
@[simp] theorem State.csrRead_mem (c : Csr) : (s.csrRead c).mem = s.mem := by unfold State.csrRead; split <;> rfl
@[simp] theorem State.csrRead_dirty (c : Csr) : (s.csrRead c).dirty = s.dirty := by unfold State.csrRead; split <;> rfl
@[simp] theorem State.csrRead_xlen (c : Csr) : (s.csrRead c).xlen = s.xlen := by simp [State.xlen]
@[simp] theorem State.csrRead_flen (c : Csr) : (s.csrRead c).flen = s.flen := by simp [State.flen]

@[simp] theorem State.csrWrite_cfg {n : Nat} (c : Csr) (v : BitVec n) : (s.csrWrite c v).cfg = s.cfg := by
  cases c <;> rfl
@[simp] theorem State.csrWrite_x {n : Nat} (c : Csr) (v : BitVec n) : (s.csrWrite c v).x = s.x := by
  cases c <;> rfl
@[simp] theorem State.csrWrite_pc {n : Nat} (c : Csr) (v : BitVec n) : (s.csrWrite c v).pc = s.pc := by
  cases c <;> rfl
@[simp] theorem State.csrWrite_f {n : Nat} (c : Csr) (v : BitVec n) : (s.csrWrite c v).f = s.f := by
  cases c <;> rfl
@[simp] theorem State.csrWrite_lr {n : Nat} (c : Csr) (v : BitVec n) : (s.csrWrite c v).lr = s.lr := by
  cases c <;> rfl
@[simp] theorem State.csrWrite_mem {n : Nat} (c : Csr) (v : BitVec n) : (s.csrWrite c v).mem = s.mem := by
  cases c <;> rfl
@[simp] theorem State.csrWrite_dirty {n : Nat} (c : Csr) (v : BitVec n) : (s.csrWrite c v).dirty = s.dirty := by
  cases c <;> rfl
@[simp] theorem State.csrWrite_draws {n : Nat} (c : Csr) (v : BitVec n) : (s.csrWrite c v).draws = s.draws := by
  cases c <;> rfl
@[simp] theorem State.csrWrite_xlen {n : Nat} (c : Csr) (v : BitVec n) : (s.csrWrite c v).xlen = s.xlen := by
  simp [State.xlen]
@[simp] theorem State.csrWrite_flen {n : Nat} (c : Csr) (v : BitVec n) : (s.csrWrite c v).flen = s.flen := by
  simp [State.flen]

end Sys2Proof.Machine
end

