-- ==== Sys2Proof/Laws/Memory.lean ====
section
/-! SUPPORT. Memory and the set of written bytes: a read after a write, and the canonical form that every write keeps. -/

namespace Sys2Proof.Machine

theorem Memory.read_write (m : List Host.Cell) (a b : Nat) (v : Byte) :
    Memory.read (Memory.write m a v) b = if b = a then some v else Memory.read m b := by
  induction m with
  | nil => simp [Memory.write, Memory.read, eq_comm]
  | cons c rest ih =>
    obtain ⟨k, u⟩ := c
    unfold Memory.write
    split
    · simp [Memory.read, eq_comm]
    · split
      · next h => subst h; by_cases hb : a = b <;> simp [Memory.read, hb, eq_comm]
      · next h1 h2 =>
        simp only [Memory.read, ih]
        by_cases hk : k = b
        · subst hk; simp; omega
        · simp [hk]

theorem Memory.mem_write {m : List Host.Cell} {a : Nat} {v : Byte} {c : Host.Cell} (h : c ∈ Memory.write m a v) :
    c = (a, v) ∨ c ∈ m := by
  induction m with
  | nil => simpa [Memory.write] using h
  | cons d rest ih =>
    obtain ⟨k, u⟩ := d
    unfold Memory.write at h
    split at h
    · simpa using h
    · split at h
      · next h' => subst h'; simp only [List.mem_cons] at h ⊢; tauto
      · simp only [List.mem_cons] at h ⊢
        rcases h with h | h
        · exact .inr (.inl h)
        · rcases ih h with h | h
          · exact .inl h
          · exact .inr (.inr h)

theorem Memory.write_wf {m : List Host.Cell} (h : Memory.wf m) (a : Nat) (v : Byte) : Memory.wf (Memory.write m a v) := by
  induction m with
  | nil => simp [Memory.write, Memory.wf]
  | cons c rest ih =>
    obtain ⟨k, u⟩ := c
    have h1 := List.pairwise_cons.1 h
    unfold Memory.write
    split
    · next hlt =>
      refine List.pairwise_cons.2 ⟨fun d hd => ?_, h⟩
      rcases List.mem_cons.1 hd with rfl | hd
      · exact hlt
      · exact lt_trans hlt (h1.1 d hd)
    · split
      · exact List.pairwise_cons.2 ⟨h1.1, h1.2⟩
      · next hn he =>
        refine List.pairwise_cons.2 ⟨fun d hd => ?_, ih h1.2⟩
        rcases Memory.mem_write hd with rfl | hd
        · simp only; omega
        · exact h1.1 d hd

theorem AddrSet.mem_insert (l : List Nat) (a b : Nat) : b ∈ AddrSet.insert l a ↔ b = a ∨ b ∈ l := by
  induction l with
  | nil => simp [AddrSet.insert]
  | cons k rest ih =>
    unfold AddrSet.insert
    split
    · simp
    · split
      · next h => subst h; simp
      · simp only [List.mem_cons, ih]; tauto

theorem AddrSet.insert_wf {l : List Nat} (h : AddrSet.wf l) (a : Nat) : AddrSet.wf (AddrSet.insert l a) := by
  induction l with
  | nil => simp [AddrSet.insert, AddrSet.wf]
  | cons k rest ih =>
    have h1 := List.pairwise_cons.1 h
    unfold AddrSet.insert
    split
    · next hlt =>
      refine List.pairwise_cons.2 ⟨fun d hd => ?_, h⟩
      rcases List.mem_cons.1 hd with rfl | hd
      · exact hlt
      · exact lt_trans hlt (h1.1 d hd)
    · split
      · exact h
      · next hn he =>
        refine List.pairwise_cons.2 ⟨fun d hd => ?_, ih h1.2⟩
        rcases (AddrSet.mem_insert rest a d).1 hd with rfl | hd
        · omega
        · exact h1.1 d hd

theorem State.writeBytes_mem_wf {s : State} (h : Memory.wf s.mem) {n w : Nat} (a : BitVec n) (v : BitVec w) (c : Nat) :
    Memory.wf (s.writeBytes a v c).mem := by
  induction c with
  | zero => exact h
  | succ k ih => exact Memory.write_wf ih _ _

theorem State.writeBytes_dirty_wf {s : State} (h : AddrSet.wf s.dirty) {n w : Nat} (a : BitVec n) (v : BitVec w) (c : Nat) :
    AddrSet.wf (s.writeBytes a v c).dirty := by
  induction c with
  | zero => exact h
  | succ k ih => exact AddrSet.insert_wf ih _

/-- The bytes remembered after a store: those before, and the stored ones. -/
theorem State.writeBytes_dirty {s : State} {n w : Nat} (a : BitVec n) (v : BitVec w) (c b : Nat) :
    b ∈ (s.writeBytes a v c).dirty ↔ b ∈ s.dirty ∨ ∃ k < c, b = byteAddr a k := by
  induction c with
  | zero => simp [State.writeBytes]
  | succ k ih =>
    simp only [State.writeBytes, State.writeByte_dirty, AddrSet.mem_insert, ih]
    constructor
    · rintro (h | h | ⟨j, hj, h⟩)
      · exact .inr ⟨k, by omega, h⟩
      · exact .inl h
      · exact .inr ⟨j, by omega, h⟩
    · rintro (h | ⟨j, hj, h⟩)
      · exact .inr (.inl h)
      · rcases Nat.lt_succ_iff_lt_or_eq.1 hj with hj | rfl
        · exact .inr (.inr ⟨j, hj, h⟩)
        · exact .inl h

/-- A byte outside a store reads as before. -/
theorem State.writeBytes_read_other {s : State} {n w : Nat} (a : BitVec n) (v : BitVec w) (c b : Nat)
    (h : ∀ k < c, b ≠ byteAddr a k) : Memory.read (s.writeBytes a v c).mem b = Memory.read s.mem b := by
  induction c with
  | zero => rfl
  | succ k ih =>
    simp only [State.writeBytes, State.writeByte_mem, Memory.read_write]
    rw [if_neg (h k (by omega)), ih fun j hj => h j (by omega)]

/-- A stored byte reads as the byte of the value, when the addresses of the access do not meet. -/
theorem State.writeBytes_read {s : State} {n w : Nat} (a : BitVec n) (v : BitVec w) (c k : Nat) (hk : k < c)
    (hc : c ≤ 2 ^ n) : Memory.read (s.writeBytes a v c).mem (byteAddr a k) = some (v.extractLsb' (8 * k) 8) := by
  induction c with
  | zero => omega
  | succ j ih =>
    simp only [State.writeBytes, State.writeByte_mem, Memory.read_write]
    rcases Nat.lt_succ_iff_lt_or_eq.1 hk with hlt | rfl
    · rw [if_neg, ih hlt (by omega)]
      intro h
      have h2 : (a + BitVec.ofNat n k) = (a + BitVec.ofNat n j) := BitVec.eq_of_toNat_eq h
      have h3 := congrArg BitVec.toNat (add_left_cancel h2)
      rw [BitVec.toNat_ofNat, BitVec.toNat_ofNat, Nat.mod_eq_of_lt (by omega), Nat.mod_eq_of_lt (by omega)] at h3
      omega
    · simp

end Sys2Proof.Machine
end

