-- ==== Sys2Proof/Laws/Views.lean ====
section
/-! SUPPORT. What the registers show after each update of the state. -/

namespace Sys2Proof.Machine

theorem State.xlen_cases (s : State) : s.xlen = 32 ∨ s.xlen = 64 := by
  unfold State.xlen; cases s.cfg.xlen <;> simp [Xlen.bits]

theorem State.xlen_le (s : State) : s.xlen ≤ 64 := by rcases s.xlen_cases with h | h <;> omega

theorem State.flen_le (s : State) : s.flen ≤ 128 := by
  unfold State.flen Config.flen; split <;> [skip; split <;> [skip; split]] <;> decide

theorem State.xNat_lt (s : State) (r : RegNum) : s.xNat r < 2 ^ s.xlen := (s.getX r).isLt

theorem State.pcNat_lt (s : State) : s.pcNat < 2 ^ s.xlen := s.getPc.isLt

theorem State.fNat_lt (s : State) (r : RegNum) : s.fNat r < 2 ^ s.flen := (s.getF r).isLt

theorem State.xNat_zero (s : State) : s.xNat 0 = 0 := by simp [State.xNat, State.getX]

/-- What `x[r]` shows depends on the parameters and the integer registers only. -/
theorem State.xNat_congr {s t : State} (hc : t.cfg = s.cfg) (hx : t.x = s.x) (r : RegNum) : t.xNat r = s.xNat r := by
  unfold State.xNat State.getX State.xlen
  split <;> simp [hc, hx]

/-- What `f[r]` shows depends on the parameters and the floating-point registers only. -/
theorem State.fNat_congr {s t : State} (hc : t.cfg = s.cfg) (hf : t.f = s.f) (r : RegNum) : t.fNat r = s.fNat r := by
  unfold State.fNat State.getF State.flen; simp [hc, hf]

/-- What `pc` shows depends on the parameters and `pc` only. -/
theorem State.pcNat_congr {s t : State} (hc : t.cfg = s.cfg) (hp : t.pc = s.pc) : t.pcNat = s.pcNat := by
  unfold State.pcNat State.getPc State.xlen; simp [hc, hp]

theorem setWidth_roundtrip {n m k : Nat} (v : BitVec n) (h : k ≤ m) :
    ((v.setWidth k).setWidth m).toNat % 2 ^ k = v.toNat % 2 ^ k := by
  simp only [BitVec.toNat_setWidth]
  rw [Nat.mod_mod_of_dvd _ (Nat.pow_dvd_pow 2 h), Nat.mod_mod]

/-- What `x[r]` shows is the low `XLEN` bits of its container. -/
theorem State.xNat_eq (s : State) (r : RegNum) :
    s.xNat r = if r = 0 then 0 else (s.x[r.toNat]'r.isLt).toNat % 2 ^ s.xlen := by
  unfold State.xNat State.getX
  split <;> simp

/-- What `f[r]` shows is the low `FLEN` bits of its container. -/
theorem State.fNat_eq (s : State) (r : RegNum) : s.fNat r = (s.f[r.toNat]'r.isLt).toNat % 2 ^ s.flen := by
  simp [State.fNat, State.getF]

/-- What `pc` shows is the low `XLEN` bits of its container. -/
theorem State.pcNat_eq (s : State) : s.pcNat = s.pc.toNat % 2 ^ s.xlen := by simp [State.pcNat, State.getPc]

theorem State.setX_of_ne {n : Nat} (s : State) (r : RegNum) (v : BitVec n) (h : r ≠ 0) :
    s.setX r v = { s with x := s.x.set r.toNat ((v.setWidth s.xlen).setWidth 64) r.isLt } := if_neg h

theorem State.setX_zero {n : Nat} (s : State) (v : BitVec n) : s.setX 0 v = s := if_pos rfl

theorem State.setX_x_self {n : Nat} (s : State) (r : RegNum) (v : BitVec n) (h : r ≠ 0) :
    ((s.setX r v).x[r.toNat]'r.isLt) = (v.setWidth s.xlen).setWidth 64 := by
  simp only [State.setX_of_ne _ _ _ h, Vector.getElem_set_self]

theorem State.setX_x_other {n : Nat} (s : State) (rd r : RegNum) (v : BitVec n) (h : r ≠ rd) :
    ((s.setX rd v).x[r.toNat]'r.isLt) = s.x[r.toNat]'r.isLt := by
  have hne : rd.toNat ≠ r.toNat := fun h' => h (BitVec.eq_of_toNat_eq h'.symm)
  by_cases h0 : rd = 0
  · subst h0; simp only [State.setX_zero]
  · simp only [State.setX_of_ne _ _ _ h0]
    exact Vector.getElem_set_ne rd.isLt r.isLt hne

theorem State.setX_xNat {n : Nat} (s : State) (rd r : RegNum) (v : BitVec n) :
    (s.setX rd v).xNat r = if r = rd ∧ rd ≠ 0 then v.toNat % 2 ^ s.xlen else s.xNat r := by
  rw [State.xNat_eq, State.xNat_eq, State.setX_xlen]
  by_cases he : r = rd
  · subst he
    by_cases h0 : r = 0
    · simp [h0]
    · rw [if_neg h0, if_pos ⟨rfl, h0⟩, State.setX_x_self _ _ _ h0]
      exact setWidth_roundtrip v s.xlen_le
  · have hc : ¬ (r = rd ∧ rd ≠ 0) := fun h => he h.1
    rw [if_neg hc, State.setX_x_other _ _ _ _ he]

theorem State.setF_fNat {n : Nat} (s : State) (rd r : RegNum) (v : BitVec n) :
    (s.setF rd v).fNat r = if r = rd then v.toNat % 2 ^ s.flen else s.fNat r := by
  rw [State.fNat_eq, State.fNat_eq, State.setF_flen]
  by_cases he : r = rd
  · subst he
    simp only [State.setF, if_true, Vector.getElem_set_self]
    exact setWidth_roundtrip v s.flen_le
  · have hne : rd.toNat ≠ r.toNat := fun h => he (BitVec.eq_of_toNat_eq h.symm)
    simp only [State.setF, if_neg he]
    rw [Vector.getElem_set_ne rd.isLt r.isLt hne]

theorem State.setPc_pcNat {n : Nat} (s : State) (v : BitVec n) : (s.setPc v).pcNat = v.toNat % 2 ^ s.xlen := by
  rw [State.pcNat_eq, State.setPc_pc, State.setPc_xlen]
  exact setWidth_roundtrip v s.xlen_le

theorem State.nextPc_toNat (s : State) : s.nextPc.toNat = s.seqPc := by
  unfold State.nextPc State.seqPc State.pcNat
  have h : 4 < 2 ^ s.xlen := by rcases s.xlen_cases with h | h <;> simp [h]
  rw [BitVec.toNat_add]
  congr 2
  exact Nat.mod_eq_of_lt h

theorem State.advance_pcNat (s : State) : s.advance.pcNat = s.seqPc := by
  unfold State.advance
  rw [State.setPc_pcNat, State.nextPc_toNat]
  exact Nat.mod_eq_of_lt (s.nextPc_toNat ▸ s.nextPc.isLt)

/-- A box of `FLEN` bits: all ones above the pattern. -/
theorem boxed_toNat (w flen : Nat) (v : BitVec w) (hw : w ≤ flen) (hf : flen ≤ 128) :
    (boxed v).toNat % 2 ^ flen = 2 ^ flen - 2 ^ w + v.toNat := by
  have e1 : boxed v = ((BitVec.allOnes (128 - w)) ++ v).cast (by omega) := by
    apply BitVec.eq_of_getLsbD_eq
    intro i hi
    simp only [boxed, BitVec.getLsbD_or, BitVec.getLsbD_shiftLeft, BitVec.getLsbD_setWidth, BitVec.getLsbD_cast,
      BitVec.getLsbD_append, BitVec.getLsbD_allOnes]
    by_cases h : i < w
    · simp [h, hi]
    · have h1 : i - w < 128 - w := by omega
      simp [h, h1]; omega
  rw [e1, BitVec.toNat_cast, BitVec.toNat_append, BitVec.toNat_allOnes]
  have hv := v.isLt
  rw [← Nat.shiftLeft_add_eq_or_of_lt hv, Nat.shiftLeft_eq]
  have h1 : 2 ^ 128 = 2 ^ (128 - w) * 2 ^ w := by rw [← Nat.pow_add]; congr 1; omega
  have h2 : 2 ^ flen = 2 ^ (flen - w) * 2 ^ w := by rw [← Nat.pow_add]; congr 1; omega
  have h3 : 2 ^ 128 = 2 ^ (128 - flen) * 2 ^ flen := by rw [← Nat.pow_add]; congr 1; omega
  have p1 : 0 < 2 ^ w := Nat.two_pow_pos w
  have p2 : 0 < 2 ^ flen := Nat.two_pow_pos flen
  have p3 : 0 < 2 ^ (128 - flen) := Nat.two_pow_pos _
  have hle : 2 ^ w ≤ 2 ^ flen := Nat.pow_le_pow_right (by omega) hw
  have e2 : (2 ^ (128 - w) - 1) * 2 ^ w + v.toNat = (2 ^ (128 - flen) - 1) * 2 ^ flen + (2 ^ flen - 2 ^ w + v.toNat) := by
    rw [Nat.sub_mul, ← h1, Nat.sub_mul, ← h3]
    have : 2 ^ flen ≤ 2 ^ 128 := Nat.pow_le_pow_right (by omega) hf
    omega
  rw [e2, Nat.mul_comm, Nat.mul_add_mod, Nat.mod_eq_of_lt]
  omega

end Sys2Proof.Machine
end

