-- ==== Sys2Proof/Laws/Boot.lean ====
section
/-! SUPPORT. What the state before the first step holds. -/

namespace Sys2Proof.Machine

variable (cfg : Config) (image : List Host.Cell) (init : InitialValues)

@[simp] theorem State.boot_cfg : (State.boot cfg image init).cfg = cfg := rfl
@[simp] theorem State.boot_pc : (State.boot cfg image init).pc = cfg.resetPc := rfl
@[simp] theorem State.boot_frm : (State.boot cfg image init).frm = (init.fcsr.getD resetFcsr).extractLsb' 5 3 := rfl
@[simp] theorem State.boot_fflags : (State.boot cfg image init).fflags = (init.fcsr.getD resetFcsr).extractLsb' 0 5 := rfl
@[simp] theorem State.boot_lr : (State.boot cfg image init).lr = none := rfl
@[simp] theorem State.boot_mem : (State.boot cfg image init).mem = image := rfl
@[simp] theorem State.boot_dirty : (State.boot cfg image init).dirty = [] := rfl
@[simp] theorem State.boot_draws : (State.boot cfg image init).draws = 0 := rfl
@[simp] theorem State.boot_xlen : (State.boot cfg image init).xlen = cfg.xlen.bits := rfl
@[simp] theorem State.boot_flen : (State.boot cfg image init).flen = cfg.flen := rfl

/-- A register that is given a value holds its low bits; another holds those of `rest`. -/
theorem bootRegisters_get {w : Nat} (width : Nat) (rest : BitVec w) (given : List (RegNum × BitVec w)) (r : RegNum) :
    (bootRegisters width rest given)[r.toNat]'r.isLt = (((given.lookup r).getD rest).setWidth width).setWidth w := by
  unfold bootRegisters
  induction given with
  | nil => simp
  | cons p given ih =>
    rw [List.foldr_cons, Vector.getElem_set, List.lookup_cons]
    rcases eq_or_ne r p.1 with rfl | h
    · simp
    · have hn : p.1.toNat ≠ r.toNat := fun e => h (BitVec.eq_of_toNat_eq e.symm)
      rw [if_neg hn, ih, beq_eq_false_iff_ne.2 h]

end Sys2Proof.Machine
end

