-- ==== Sys2Proof/Laws/Ops.lean ====
section
/-! SUPPORT. One lemma for each shared operation: everything it can do if it answers a next state. -/

namespace Sys2Proof.Machine

variable {s t : State} {i : Instr}

/-! ### Checks -/

theorem raise_ne_next {n : Nat} {e : Exception} {info : BitVec n} (h : raise e info s = .next t) : False := by
  simp [raise] at h

theorem illegal_ne_next (h : illegal i s = .next t) : False := raise_ne_next h

theorem requires_has {tab : InstrTable} {k : Result} (h : s.cfg.has tab = true) : requires tab i s k = k := if_pos h

theorem requires_lacks {tab : InstrTable} {k : Result} (h : s.cfg.has tab = false) : requires tab i s k = illegal i s :=
  if_neg (by simp [h])

/-- An instruction that goes on has its table. -/
theorem requires_next {tab : InstrTable} {k : Result} (h : requires tab i s k = .next t) :
    s.cfg.has tab = true ∧ k = .next t := by
  unfold requires at h; split at h
  · next hc => exact ⟨hc, h⟩
  · exact (illegal_ne_next h).elim

/-- An access that goes on is aligned and permitted. -/
theorem checked_next {acc : Access} {bytes n : Nat} {addr : BitVec n} {k : Result}
    (h : checked acc bytes addr s k = .next t) :
    addr.toNat % bytes = 0 ∧ s.permitsAll acc.need addr bytes = true ∧ k = .next t := by
  unfold checked at h; split at h
  · exact (raise_ne_next h).elim
  · next ha =>
    split at h
    · exact (raise_ne_next h).elim
    · next hp => exact ⟨by simpa using ha, by simpa using hp, h⟩

/-- A read that goes on does so from the state itself or after one draw. -/
theorem readBytes_next {n : Nat} {addr : BitVec n} {bytes : Nat} {k : BitVec (8 * bytes) → State → Result}
    (h : readBytes addr bytes s k = .next t) :
    ∃ v s', (s' = s ∨ s' = s.drawn) ∧ k v s' = .next t := by
  unfold readBytes at h; dsimp only at h; split at h
  · exact ⟨_, s, .inl rfl, h⟩
  · split at h
    · cases h
    · exact ⟨_, s.drawn, .inr rfl, h⟩

/-- A fetch that goes on hands a word to the rest, from the state itself or after one draw. -/
theorem fetch_next {k : InstrWord → State → Result} (h : fetch s k = .next t) :
    ∃ w s', (s' = s ∨ s' = s.drawn) ∧ k w s' = .next t := by
  unfold fetch at h; split at h
  · exact (raise_ne_next h).elim
  · split at h
    · cases h
    · exact readBytes_next h

theorem withShamt_next {shamt : BitVec 6} {k : Nat → Result} (h : withShamt i shamt s k = .next t) :
    shamt.toNat < s.xlen ∧ k shamt.toNat = .next t := by
  unfold withShamt at h; split at h
  · next hc => exact ⟨hc, h⟩
  · exact (illegal_ne_next h).elim

theorem withMode_next {rm : BitVec 3} {k : RoundMode → Result} (h : withMode i rm s k = .next t) :
    ∃ mode, s.roundMode rm = some mode ∧ k mode = .next t := by
  unfold withMode at h; split at h
  · next mode hm => exact ⟨mode, hm, h⟩
  · exact (illegal_ne_next h).elim

/-! ### Integer results, jumps and branches -/

theorem writeReg_next {n : Nat} {rd : RegNum} {v : BitVec n} (h : writeReg rd v s = .next t) :
    t = (s.setX rd v).advance := by cases h; rfl

theorem jumpTo_next {n : Nat} {a : BitVec n} {effect : State → State} (h : jumpTo a s effect = .next t) :
    a.toNat % 4 = 0 ∧ t = (effect s).setPc a := by
  unfold jumpTo at h; split at h
  · exact (raise_ne_next h).elim
  · next hc => cases h; exact ⟨by simpa using hc, rfl⟩

theorem branch_next {taken : Bool} {imm : BitVec 13} (h : branch taken imm s = .next t) :
    t = s.advance ∨ ((s.target imm).toNat % 4 = 0 ∧ t = s.setPc (s.target imm)) := by
  unfold branch at h; split at h
  · exact .inr (jumpTo_next h)
  · cases h; exact .inl rfl

/-! ### Loads, stores and atomics -/

theorem load_next {bytes : Nat} {signed : Bool} {rd rs1 : RegNum} {imm : BitVec 12}
    (h : load bytes signed rd rs1 imm s = .next t) :
    ∃ (v : BitVec s.xlen) (s' : State), (s' = s ∨ s' = s.drawn) ∧ t = (s'.setX rd v).advance := by
  obtain ⟨-, -, h⟩ := checked_next h
  obtain ⟨v, s', hs, h⟩ := readBytes_next h
  split at h
  · exact ⟨_, s', hs, writeReg_next h⟩
  · exact ⟨_, s', hs, writeReg_next h⟩

theorem store_next {bytes : Nat} {rs1 rs2 : RegNum} {imm : BitVec 12} (h : store bytes rs1 rs2 imm s = .next t) :
    t = (s.writeBytes (s.effAddr rs1 imm) (s.getX rs2) bytes).advance := by
  obtain ⟨-, -, h⟩ := checked_next h
  cases h; rfl

theorem loadFloat_next {fmt : Fmt} {rd rs1 : RegNum} {imm : BitVec 12} (h : loadFloat fmt rd rs1 imm s = .next t) :
    ∃ (v : BitVec (8 * (fmt.width / 8))) (s' : State), (s' = s ∨ s' = s.drawn) ∧ t = (s'.writeF rd v).advance := by
  obtain ⟨-, -, h⟩ := checked_next h
  obtain ⟨v, s', hs, h⟩ := readBytes_next h
  cases h; exact ⟨v, s', hs, rfl⟩

theorem storeFloat_next {fmt : Fmt} {rs1 rs2 : RegNum} {imm : BitVec 12}
    (h : storeFloat fmt rs1 rs2 imm s = .next t) :
    t = (s.writeBytes (s.effAddr rs1 imm) (s.rawF fmt rs2) (fmt.width / 8)).advance := by
  obtain ⟨-, -, h⟩ := checked_next h
  cases h; rfl

theorem loadReserved_next {bytes : Nat} {rd rs1 : RegNum} (h : loadReserved bytes rd rs1 s = .next t) :
    ∃ (v : BitVec s.xlen) (s' : State), (s' = s ∨ s' = s.drawn) ∧
      t = ((s'.reserve (s.getX rs1)).setX rd v).advance := by
  obtain ⟨-, -, h⟩ := checked_next h
  obtain ⟨v, s', hs, h⟩ := readBytes_next h
  exact ⟨_, s', hs, writeReg_next h⟩

theorem storeConditional_next {bytes : Nat} {rd rs1 rs2 : RegNum} (h : storeConditional bytes rd rs1 rs2 s = .next t) :
    t = ((s.drawn.writeBytes (s.getX rs1) (s.getX rs2) bytes).clearReservation.setX rd (0 : BitVec s.xlen)).advance ∨
    t = (s.drawn.clearReservation.setX rd (1 : BitVec s.xlen)).advance ∨
    t = (s.clearReservation.setX rd (1 : BitVec s.xlen)).advance := by
  obtain ⟨-, -, h⟩ := checked_next h
  split at h
  · split at h
    · exact .inl (writeReg_next h)
    · exact .inr (.inl (writeReg_next h))
  · exact .inr (.inr (writeReg_next h))

theorem amo_next {bytes : Nat} {op : BitVec (8 * bytes) → BitVec (8 * bytes) → BitVec (8 * bytes)} {rd rs1 rs2 : RegNum}
    (h : amo bytes op rd rs1 rs2 s = .next t) :
    ∃ (v : BitVec s.xlen) (new : BitVec (8 * bytes)) (s' : State), (s' = s ∨ s' = s.drawn) ∧
      t = ((s'.writeBytes (s.getX rs1) new bytes).setX rd v).advance := by
  obtain ⟨-, -, h⟩ := checked_next h
  obtain ⟨v, s', hs, h⟩ := readBytes_next h
  exact ⟨_, _, s', hs, writeReg_next h⟩

/-! ### Control and status registers -/

/-- A CSR instruction that goes on leaves the state after the read, then after the write. -/
theorem csrAccess_next {rd : RegNum} {addr : BitVec 12} {reads : Bool} {write : Option (BitVec s.xlen → BitVec s.xlen)}
    (h : csrAccess i rd addr reads s write = .next t) :
    ∃ c s' s'', csrAt s.cfg addr = some c ∧ (c.readOnly && write.isSome) = false ∧
      s' = (if reads then s.csrRead c else s) ∧
      (s'' = s' ∨ ∃ g, write = some g ∧ s'' = s'.csrWrite c (g (s.csrValue c))) ∧ (write = none → s'' = s') ∧
      t = (if reads then s''.setX rd (s.csrValue c) else s'').advance := by
  unfold csrAccess at h; split at h
  · exact (illegal_ne_next h).elim
  · next c hc =>
    split at h
    · exact (illegal_ne_next h).elim
    · next hr =>
      cases write with
      | none =>
        refine ⟨c, _, _, hc, by simp, rfl, .inl rfl, fun _ => rfl, ?_⟩
        cases reads <;> (cases h; rfl)
      | some g =>
        refine ⟨c, _, _, hc, by simpa using hr, rfl, .inr ⟨g, rfl, rfl⟩, by simp, ?_⟩
        cases reads <;> (cases h; rfl)

/-! ### Floating point -/

theorem writeFloat_next {fmt : Fmt} {rd : RegNum} {r : FloatResult fmt} (h : writeFloat rd r s = .next t) :
    t = ((s.writeF rd r.bits).accrue r.flags).advance := by cases h; rfl

theorem float1_next {fmt : Fmt} {op : RoundMode → fmt.Bits → FloatResult fmt} {rd rs1 : RegNum} {rm : BitVec 3}
    (h : float1 fmt op i rd rs1 rm s = .next t) :
    ∃ mode, s.roundMode rm = some mode ∧
      t = ((s.writeF rd (op mode (s.readF fmt rs1)).bits).accrue (op mode (s.readF fmt rs1)).flags).advance := by
  obtain ⟨mode, hm, h⟩ := withMode_next h
  exact ⟨mode, hm, writeFloat_next h⟩

theorem float2_next {fmt : Fmt} {op : RoundMode → fmt.Bits → fmt.Bits → FloatResult fmt} {rd rs1 rs2 : RegNum}
    {rm : BitVec 3} (h : float2 fmt op i rd rs1 rs2 rm s = .next t) :
    ∃ (mode : RoundMode) (r : FloatResult fmt), s.roundMode rm = some mode ∧
      r = op mode (s.readF fmt rs1) (s.readF fmt rs2) ∧ t = ((s.writeF rd r.bits).accrue r.flags).advance := by
  obtain ⟨mode, hm, h⟩ := withMode_next h
  exact ⟨mode, _, hm, rfl, writeFloat_next h⟩

theorem float3_next {fmt : Fmt} {op : RoundMode → fmt.Bits → fmt.Bits → fmt.Bits → FloatResult fmt}
    {rd rs1 rs2 rs3 : RegNum} {rm : BitVec 3} (h : float3 fmt op i rd rs1 rs2 rs3 rm s = .next t) :
    ∃ (mode : RoundMode) (r : FloatResult fmt), s.roundMode rm = some mode ∧
      r = op mode (s.readF fmt rs1) (s.readF fmt rs2) (s.readF fmt rs3) ∧
      t = ((s.writeF rd r.bits).accrue r.flags).advance := by
  obtain ⟨mode, hm, h⟩ := withMode_next h
  exact ⟨mode, _, hm, rfl, writeFloat_next h⟩

theorem floatSign_next {fmt : Fmt} {op : fmt.Bits → fmt.Bits → fmt.Bits} {rd rs1 rs2 : RegNum}
    (h : floatSign fmt op rd rs1 rs2 s = .next t) :
    t = ((s.writeF rd (op (s.readF fmt rs1) (s.readF fmt rs2))).accrue .none).advance := by
  unfold floatSign at h
  have := writeFloat_next h
  exact this

theorem floatMinMax_next {fmt : Fmt} {op : Bool → fmt.Bits → fmt.Bits → FloatResult fmt} {rd rs1 rs2 : RegNum}
    (h : floatMinMax fmt op rd rs1 rs2 s = .next t) :
    ∃ (r : FloatResult fmt) (s' : State), (s' = s ∨ s' = s.drawn) ∧ t = ((s'.writeF rd r.bits).accrue r.flags).advance := by
  unfold floatMinMax at h; split at h
  · exact ⟨_, _, .inr rfl, writeFloat_next h⟩
  · exact ⟨_, _, .inl rfl, writeFloat_next h⟩

theorem floatCompare_next {fmt : Fmt} {op : fmt.Bits → fmt.Bits → CompareResult} {rd rs1 rs2 : RegNum}
    (h : floatCompare fmt op rd rs1 rs2 s = .next t) :
    ∃ (n : Nat) (v : BitVec n) (fl : FlagSet), t = ((s.accrue fl).setX rd v).advance := by
  unfold floatCompare writeBool at h
  exact ⟨_, _, _, writeReg_next h⟩

theorem floatToInt_next {fmt : Fmt} {ty : IntType} {rd rs1 : RegNum} {rm : BitVec 3}
    (h : floatToInt fmt ty i rd rs1 rm s = .next t) :
    ∃ (n : Nat) (v : BitVec n) (fl : FlagSet), t = ((s.accrue fl).setX rd v).advance := by
  obtain ⟨mode, -, h⟩ := withMode_next h
  exact ⟨_, _, _, writeReg_next h⟩

theorem intToFloat_next {fmt : Fmt} {ty : IntType} {rd rs1 : RegNum} {rm : BitVec 3}
    (h : intToFloat fmt ty i rd rs1 rm s = .next t) :
    ∃ r : FloatResult fmt, t = ((s.writeF rd r.bits).accrue r.flags).advance := by
  obtain ⟨mode, -, h⟩ := withMode_next h
  exact ⟨_, writeFloat_next h⟩

theorem floatToFloat_next {src dst : Fmt} {rd rs1 : RegNum} {rm : BitVec 3}
    (h : floatToFloat src dst i rd rs1 rm s = .next t) :
    ∃ r : FloatResult dst, t = ((s.writeF rd r.bits).accrue r.flags).advance := by
  obtain ⟨mode, -, h⟩ := withMode_next h
  exact ⟨_, writeFloat_next h⟩

theorem moveToFloat_next {fmt : Fmt} {rd rs1 : RegNum} (h : moveToFloat fmt rd rs1 s = .next t) :
    t = (s.writeF rd ((s.getX rs1).setWidth fmt.width)).advance := by cases h; rfl

end Sys2Proof.Machine
end

