-- ==== Sys2Proof/Laws/Completion.lean ====
section
/-! SUPPORT. How each end of an instruction is seen by the terms of Safety.lean. -/

namespace Sys2Proof.Machine

variable {s t : State} {i : Instr}

theorem shown_setWidth {n : Nat} (v : BitVec n) : v.setWidth 64 = shown v.toNat := by
  apply BitVec.eq_of_toNat_eq; simp [shown]

/-- An exception, in the terms of Safety.lean. -/
theorem traps_of_raise {n : Nat} {e : Exception} {info : BitVec n} (h : exec i s = raise e info s) :
    Traps i s e info.toNat := by
  rw [Traps, h, raise, shown_setWidth, shown_setWidth]; rfl

theorem illegal_of {h : exec i s = illegal i s} : Illegal i s := traps_of_raise h

/-- The instruction of an unavailable row is illegal. -/
theorem illegal_of_lacks {tab : InstrTable} {k : Result} (h : exec i s = requires tab i s k) (hc : s.cfg.has tab = false) :
    Illegal i s := illegal_of (h := h.trans (requires_lacks hc))

theorem reservation_of_lr (hc : t.cfg = s.cfg) (hl : t.lr = s.lr) : SameLr s t := by
  unfold SameLr State.reservation State.xlen
  rw [hc, hl]

/-- The two states agree on everything but the integer registers and `pc`. -/
theorem same_of_advance_setX {n : Nat} (rd : RegNum) (v : BitVec n) :
    SameF s (s.setX rd v).advance ∧ SameFcsr s (s.setX rd v).advance ∧ SameMem s (s.setX rd v).advance ∧
      SameLr s (s.setX rd v).advance ∧ SameRun s (s.setX rd v).advance :=
  ⟨fun r => State.fNat_congr (by simp) (by simp) r, by simp [SameFcsr], by simp [SameMem],
    reservation_of_lr (by simp) (by simp), by simp [SameRun]⟩

theorem xIs_setX {n : Nat} (rd : RegNum) (v : BitVec n) : XIs s (s.setX rd v) rd (v.toNat % 2 ^ s.xlen) :=
  fun r => s.setX_xNat rd r v

theorem xIs_setX_advance {n : Nat} (rd : RegNum) (v : BitVec n) :
    XIs s (s.setX rd v).advance rd (v.toNat % 2 ^ s.xlen) := fun r => by
  rw [← s.setX_xNat rd r v]; exact State.xNat_congr (by simp) (by simp) r

theorem seqPc_congr (hc : t.cfg = s.cfg) (hp : t.pc = s.pc) : t.seqPc = s.seqPc := by
  unfold State.seqPc; rw [State.pcNat_congr hc hp]; simp [State.xlen, hc]

theorem advance_pcNat_of (hc : t.cfg = s.cfg) (hp : t.pc = s.pc) : t.advance.pcNat = s.seqPc := by
  rw [State.advance_pcNat, seqPc_congr hc hp]

/-- A result in `x[rd]` completes the instruction. -/
theorem completesX_of {n : Nat} {rd : RegNum} {v : BitVec n} {m : Nat} (h : exec i s = writeReg rd v s)
    (hm : v.toNat % 2 ^ s.xlen = m) : CompletesX i s rd m :=
  ⟨_, h, hm ▸ xIs_setX_advance rd v, advance_pcNat_of (by simp) (by simp), same_of_advance_setX rd v⟩

/-- A result of `XLEN` bits in `x[rd]` completes the instruction. -/
theorem completesX_of_xlen {rd : RegNum} {v : BitVec s.xlen} {m : Nat} (h : exec i s = writeReg rd v s)
    (hm : v.toNat = m) : CompletesX i s rd m :=
  completesX_of h (by rw [hm, Nat.mod_eq_of_lt (hm ▸ v.isLt)])

/-- A result in `x[rd]` with flags completes the instruction. -/
theorem completesXFlags_of {n : Nat} {rd : RegNum} {v : BitVec n} {m : Nat} {fl : FlagSet}
    (h : exec i s = writeReg rd v (s.accrue fl)) (hm : v.toNat % 2 ^ s.xlen = m) : CompletesXFlags i s rd m fl := by
  refine ⟨_, h, fun r => ?_, advance_pcNat_of (by simp) (by simp), by simp, by simp,
    fun r => State.fNat_congr (by simp) (by simp) r, by simp [SameMem], reservation_of_lr (by simp) (by simp),
    by simp [SameRun]⟩
  have e := (s.accrue fl).setX_xNat rd r v
  rw [State.accrue_xlen, hm, State.xNat_congr (s := s) (t := s.accrue fl) (by simp) (by simp)] at e
  rw [← e]; exact State.xNat_congr (by simp) (by simp) r

/-- A result in `x[rd]` after a draw completes the instruction. -/
theorem completesDraw_of {n : Nat} {rd : RegNum} {v : BitVec n} {m : Nat} (h : exec i s = writeReg rd v s.drawn)
    (hm : v.toNat % 2 ^ s.xlen = m) : CompletesDraw i s rd m := by
  refine ⟨_, h, fun r => ?_, advance_pcNat_of (by simp) (by simp), by simp, by simp,
    fun r => State.fNat_congr (by simp) (by simp) r, by simp [SameFcsr], by simp [SameMem],
    reservation_of_lr (by simp) (by simp)⟩
  have e := s.drawn.setX_xNat rd r v
  rw [State.drawn_xlen, hm, State.xNat_congr (s := s) (t := s.drawn) (by simp) (by simp)] at e
  rw [← e]; exact State.xNat_congr (by simp) (by simp) r

/-- An instruction that only moves on completes. -/
theorem completesPc_of_advance (h : exec i s = .next s.advance) : CompletesPc i s s.seqPc :=
  ⟨_, h, s.advance_pcNat, fun r => State.xNat_congr (by simp) (by simp) r, fun r => State.fNat_congr (by simp) (by simp) r,
    by simp [SameFcsr], by simp [SameMem], reservation_of_lr (by simp) (by simp), by simp [SameRun]⟩

/-- An instruction that only jumps completes. -/
theorem completesPc_of_setPc {a : BitVec s.xlen} (h : exec i s = .next (s.setPc a)) : CompletesPc i s a.toNat :=
  ⟨_, h, by rw [State.setPc_pcNat, Nat.mod_eq_of_lt a.isLt], fun r => State.xNat_congr (by simp) (by simp) r,
    fun r => State.fNat_congr (by simp) (by simp) r, by simp [SameFcsr], by simp [SameMem],
    reservation_of_lr (by simp) (by simp), by simp [SameRun]⟩

/-- A jump that links completes. -/
theorem completesLink_of {a : BitVec s.xlen} {rd : RegNum} (h : exec i s = .next ((s.setX rd s.nextPc).setPc a)) :
    CompletesLink i s rd a.toNat := by
  refine ⟨_, h, by rw [State.setPc_pcNat, State.setX_xlen, Nat.mod_eq_of_lt a.isLt], fun r => ?_,
    fun r => State.fNat_congr (by simp) (by simp) r, by simp [SameFcsr], by simp [SameMem],
    reservation_of_lr (by simp) (by simp), by simp [SameRun]⟩
  have e := s.setX_xNat rd r s.nextPc
  rw [State.nextPc_toNat, Nat.mod_eq_of_lt (s.nextPc_toNat ▸ s.nextPc.isLt)] at e
  rw [← e]; exact State.xNat_congr (by simp) (by simp) r

/-- A branch has the laws of a branch. -/
theorem branchLaw_of {imm : BitVec 13} {taken : Bool} {cond : Prop} (h : exec i s = branch taken imm s)
    (hc : taken = true ↔ cond) (ht : (s.target imm).toNat = wrap s.xlen (s.pcNat + imm.toInt)) :
    BranchLaw i s imm cond := by
  rw [BranchLaw, ← hc, ← ht]
  refine ⟨fun hn => completesPc_of_advance ?_, fun ht h4 => completesPc_of_setPc ?_, fun ht h4 => traps_of_raise ?_⟩
  · rw [h, branch, if_neg hn]
  · rw [h, branch, if_pos ht, jumpTo, if_neg (by simpa using h4)]; rfl
  · rw [h, branch, if_pos ht, jumpTo, if_pos (by simpa using h4)]

/-- A jump has the laws of a jump. -/
theorem jumpLaw_of {a : BitVec s.xlen} {rd : RegNum} (h : exec i s = jumpTo a s (·.setX rd s.nextPc)) :
    JumpLaw i s rd a.toNat := by
  refine ⟨fun h4 => completesLink_of ?_, fun h4 => traps_of_raise ?_⟩
  · rw [h, jumpTo, if_neg (by simpa using h4)]
  · rw [h, jumpTo, if_pos (by simpa using h4)]

/-! ### Memory -/

theorem byteAddr_eq {n : Nat} (a : BitVec n) (k : Nat) : byteAddr a k = (a.toNat + k) % 2 ^ n := by
  simp [byteAddr]

theorem permitsAll_iff (acc : Access) (a : BitVec s.xlen) (bytes : Nat) :
    s.permitsAll acc.need a bytes = true ↔ s.allowed acc a.toNat bytes := by
  simp [State.permitsAll, State.permits, State.allowed, byteAddr_eq, Region.contains, List.all_eq_true, and_assoc]

/-- The checks of an access, in the terms of Safety.lean. -/
theorem turnedAway_of {acc : Access} {bytes : Nat} {a : BitVec s.xlen} {k : Result}
    (h : exec i s = checked acc bytes a s k) : TurnedAway i s acc a.toNat bytes := by
  refine ⟨fun ha => traps_of_raise ?_, fun ha hp => traps_of_raise ?_⟩
  · rw [h, checked, if_pos ha]
  · rw [← permitsAll_iff] at hp
    rw [h, checked, if_neg (by simpa using ha), if_pos (by simpa using hp)]

/-- An access that is aligned and permitted passes its checks. -/
theorem checked_passes {acc : Access} {bytes : Nat} {a : BitVec s.xlen} {k : Result} (ha : a.toNat % bytes = 0)
    (hp : s.allowed acc a.toNat bytes) : checked acc bytes a s k = k := by
  rw [← permitsAll_iff] at hp
  rw [checked, if_neg (by simpa using ha), if_neg (by simpa using hp)]

/-- Bytes of known value are read, with no draw. -/
theorem readBytes_known {a : BitVec s.xlen} {bytes : Nat} {k : BitVec (8 * bytes) → State → Result} {b : Nat → Byte}
    (hb : s.holds a.toNat bytes b) :
    readBytes a bytes s k = k (BitVec.ofNat (8 * bytes) (bytesNat b bytes)) s := by
  have h1 : s.firstUnknown a bytes = none := by
    simp only [State.firstUnknown, List.find?_eq_none, List.mem_map, List.mem_range]
    rintro x ⟨j, hj, rfl⟩
    rw [byteAddr_eq, hb j hj]; simp
  have h2 : ∀ c ≤ bytes, littleEndian (fun j => s.byteAt (byteAddr a j)) c = bytesNat b c := by
    intro c hc
    induction c with
    | zero => rfl
    | succ c ih =>
      rw [littleEndian, bytesNat, ih (by omega), State.byteAt, byteAddr_eq, hb c (by omega), Option.getD_some, Nat.pow_mul]
  simp only [readBytes, h1, h2 bytes le_rfl]

/-- A read of bytes of which some have no known value: refused by the name of one, or a draw of values that agree with the
known ones. -/
theorem readBytes_unknown {a : BitVec s.xlen} {bytes : Nat} {k : BitVec (8 * bytes) → State → Result}
    (hl : s.lacks a.toNat bytes) :
    (s.cfg.unwritten = .fault → ∃ j < bytes, Memory.read s.mem ((a.toNat + j) % 2 ^ s.xlen) = none ∧
      readBytes a bytes s k = .refused (.unwrittenByte ((a.toNat + j) % 2 ^ s.xlen) (shown s.pcNat))) ∧
    (s.cfg.unwritten = .anyValue → ∃ b, s.agrees a.toNat bytes b ∧
      readBytes a bytes s k = k (BitVec.ofNat (8 * bytes) (bytesNat b bytes)) s.drawn) := by
  obtain ⟨x, hx⟩ : ∃ x, s.firstUnknown a bytes = some x := by
    rw [← Option.isSome_iff_exists, State.firstUnknown, List.find?_isSome]
    obtain ⟨j, hj, hn⟩ := hl
    exact ⟨byteAddr a j, List.mem_map.2 ⟨j, List.mem_range.2 hj, rfl⟩, by rw [byteAddr_eq, hn]; rfl⟩
  refine ⟨fun hu => ?_, fun hu => ⟨fun j => s.byteAt (byteAddr a j), fun j hj v hv => ?_, ?_⟩⟩
  · have hm := List.mem_of_find?_eq_some hx
    have hp := List.find?_some hx
    obtain ⟨j, hj, rfl⟩ := List.mem_map.1 hm
    refine ⟨j, List.mem_range.1 hj, ?_, ?_⟩
    · rw [← byteAddr_eq]; simpa using hp
    · simp only [readBytes, hx, hu, shown_setWidth, byteAddr_eq]; rfl
  · simp only [State.byteAt, byteAddr_eq, hv, Option.getD_some]
  · have h2 : ∀ c, littleEndian (fun j => s.byteAt (byteAddr a j)) c = bytesNat (fun j => s.byteAt (byteAddr a j)) c := by
      intro c
      induction c with
      | zero => rfl
      | succ c ih => rw [littleEndian, bytesNat, ih, Nat.pow_mul]
    simp only [readBytes, hx, hu, h2]

theorem bytesNat_lt (b : Nat → Byte) (c : Nat) : bytesNat b c < 2 ^ (8 * c) := by
  induction c with
  | zero => simp [bytesNat]
  | succ c ih =>
    have h := (b c).isLt
    have e : (2:Nat) ^ (8 * (c + 1)) = 256 * 256 ^ c := by
      rw [Nat.pow_mul, show (2:Nat) ^ 8 = 256 from rfl, Nat.pow_succ]; ring
    have e2 : (2:Nat) ^ (8 * c) = 256 ^ c := by rw [Nat.pow_mul]
    rw [bytesNat, e]; rw [e2] at ih
    have : (b c).toNat * 256 ^ c ≤ 255 * 256 ^ c := Nat.mul_le_mul_right _ (by omega)
    omega

/-- The offset of an address from the start of an access. -/
theorem offset_of_byteAddr {n : Nat} (a : BitVec n) (k : Nat) (hk : k < 2 ^ n) :
    ((a.toNat + k) % 2 ^ n + 2 ^ n - a.toNat) % 2 ^ n = k := by
  have ha := a.isLt
  rcases Nat.lt_or_ge (a.toNat + k) (2 ^ n) with h | h
  · rw [Nat.mod_eq_of_lt h, show a.toNat + k + 2 ^ n - a.toNat = k + 2 ^ n by omega, Nat.add_mod_right, Nat.mod_eq_of_lt hk]
  · have e : (a.toNat + k) % 2 ^ n = a.toNat + k - 2 ^ n := by
      rw [Nat.mod_eq_sub_mod h, Nat.mod_eq_of_lt (by omega)]
    rw [e, show a.toNat + k - 2 ^ n + 2 ^ n - a.toNat = k by omega, Nat.mod_eq_of_lt hk]

/-- A store, in the terms of Safety.lean. -/
theorem storedAt_writeBytes {w : Nat} (a : BitVec s.xlen) (v : BitVec w) (count : Nat) (hc : count ≤ 16) :
    StoredAt s (s.writeBytes a v count) a.toNat count v.toNat := by
  have h16 : 16 < 2 ^ s.xlen := by rcases s.xlen_cases with h | h <;> simp [h]
  refine ⟨fun b => ?_, fun b => ?_⟩
  · split
    · next h =>
      obtain ⟨k, hk, rfl⟩ := h
      rw [offset_of_byteAddr a k (by omega), ← byteAddr_eq, State.writeBytes_read a v count k hk (by omega)]
      congr 1; apply BitVec.eq_of_toNat_eq; simp [Nat.shiftRight_eq_div_pow]
    · next h =>
      exact State.writeBytes_read_other a v count b fun k hk hb => h ⟨k, hk, by rw [hb, byteAddr_eq]⟩
  · rw [State.writeBytes_dirty]; simp only [byteAddr_eq]

theorem storedAt_congr {u : State} {addr count v : Nat} (h : StoredAt s t addr count v) (hm : u.mem = t.mem)
    (hd : u.dirty = t.dirty) : StoredAt s u addr count v := by
  unfold StoredAt; rw [hm, hd]; exact h

/-- A store completes. -/
theorem completesStore_of {w count : Nat} {a : BitVec s.xlen} {v : BitVec w} (hc : count ≤ 16)
    (h : exec i s = .next (s.writeBytes a v count).advance) : CompletesStore i s a.toNat count v.toNat :=
  ⟨_, h, storedAt_congr (storedAt_writeBytes a v count hc) (by simp) (by simp), advance_pcNat_of (by simp) (by simp),
    fun r => State.xNat_congr (by simp) (by simp) r, fun r => State.fNat_congr (by simp) (by simp) r, by simp [SameFcsr],
    reservation_of_lr (by simp) (by simp), by simp [SameRun]⟩

/-! ### Floating-point results -/

theorem fIs_writeF {w : Nat} (rd : RegNum) (v : BitVec w) (hw : w ≤ s.flen) :
    FIs s (s.writeF rd v) rd (s.box w v.toNat) := fun r => by
  rw [State.writeF, State.setF_fNat, boxed_toNat w s.flen v hw s.flen_le]; rfl

/-- A floating-point result with flags completes the instruction. -/
theorem completesF_of {fmt : Fmt} {rd : RegNum} {r : FloatResult fmt} (hw : fmt.width ≤ s.flen)
    (h : exec i s = writeFloat rd r s) : CompletesF i s rd r := by
  refine ⟨_, h, fun q => ?_, advance_pcNat_of (by simp) (by simp), by simp, by simp,
    fun q => State.xNat_congr (by simp) (by simp) q, by simp [SameMem], reservation_of_lr (by simp) (by simp),
    by simp [SameRun]⟩
  rw [← fIs_writeF rd r.bits hw q]; exact State.fNat_congr (by simp) (by simp) q

/-- A floating-point pattern completes the instruction. -/
theorem completesFBits_of {w : Nat} {rd : RegNum} {v : BitVec w} (hw : w ≤ s.flen)
    (h : exec i s = .next (s.writeF rd v).advance) : CompletesFBits i s rd w v.toNat := by
  refine ⟨_, h, fun q => ?_, advance_pcNat_of (by simp) (by simp), fun q => State.xNat_congr (by simp) (by simp) q,
    by simp [SameFcsr], by simp [SameMem], reservation_of_lr (by simp) (by simp), by simp [SameRun]⟩
  rw [← fIs_writeF rd v hw q]; exact State.fNat_congr (by simp) (by simp) q

end Sys2Proof.Machine
end

