-- ==== Sys2Proof/Laws/Floats.lean ====
section
/-! SUPPORT. The flags and the special results of the floating-point operations, in the terms of Safety.lean. -/

namespace Sys2Proof.Machine

@[simp] theorem FlagSet.none_are {nv dz of uf nx : Prop} :
    FlagSet.none.are nv dz of uf nx ↔ ¬ nv ∧ ¬ dz ∧ ¬ of ∧ ¬ uf ∧ ¬ nx := by
  simp [FlagSet.are, FlagSet.none]

@[simp] theorem FlagSet.nv_are {nv dz of uf nx : Prop} :
    FlagSet.nv.are nv dz of uf nx ↔ nv ∧ ¬ dz ∧ ¬ of ∧ ¬ uf ∧ ¬ nx := by
  simp [FlagSet.are, FlagSet.nv]

@[simp] theorem FlagSet.dz_are {nv dz of uf nx : Prop} :
    FlagSet.dz.are nv dz of uf nx ↔ ¬ nv ∧ dz ∧ ¬ of ∧ ¬ uf ∧ ¬ nx := by
  simp [FlagSet.are, FlagSet.dz]

/-- An invalid operation delivers the canonical NaN with NV. -/
theorem Fmt.invalid_isNaN (fmt : Fmt) : fmt.invalid.isNaN True := ⟨rfl, by simp [Fmt.invalid, Fmt.nanResult]⟩

/-- An operation with a NaN operand delivers the canonical NaN, with NV if an operand is signaling. -/
theorem Fmt.nanOperands_isNaN (fmt : Fmt) (signaling : Bool) : (fmt.nanOperands signaling).isNaN (signaling = true) :=
  ⟨rfl, by cases signaling <;> simp [Fmt.nanOperands, Fmt.nanResult, FlagSet.when]⟩

/-- The flags of a rounding that does not overflow. -/
theorem FlagSet.rounding_are (inexact tiny : Bool) :
    (FlagSet.when inexact .nx ||| FlagSet.when (tiny && inexact) .uf).are False False False
      (tiny = true ∧ inexact = true) (inexact = true) := by
  cases inexact <;> cases tiny <;> simp [FlagSet.are, FlagSet.when, FlagSet.nx, FlagSet.uf, FlagSet.none]

/-- The flags of an overflow. -/
theorem FlagSet.overflow_are : (FlagSet.of ||| FlagSet.nx).are False False True False True := by
  simp [FlagSet.are, FlagSet.of, FlagSet.nx]

end Sys2Proof.Machine
end

