-- ==== Sys2Proof/Laws/Operands.lean ====
section
/-! SUPPORT. The operand forms as numbers. -/

namespace Sys2Proof.Machine

variable (s : State)

theorem State.xlen_pos : 0 < s.xlen := by rcases s.xlen_cases with h | h <;> omega

theorem asSigned_toNat {n : Nat} (v : BitVec n) : asSigned n v.toNat = v.toInt := by
  unfold asSigned; rw [BitVec.toInt_eq_toNat_cond]; norm_cast

theorem State.getX_toNat (r : RegNum) : (s.getX r).toNat = s.xNat r := rfl

theorem State.getX_toInt (r : RegNum) : (s.getX r).toInt = s.xInt r := (asSigned_toNat _).symm

theorem State.getW_toNat (r : RegNum) : (s.getW r).toNat = s.wNat r := by simp [State.getW, State.wNat, State.xNat]

theorem State.getW_toInt (r : RegNum) : (s.getW r).toInt = s.wInt r := by
  rw [State.wInt, ← State.getW_toNat, asSigned_toNat]

theorem State.rawF_toNat (fmt : Fmt) (r : RegNum) : (s.rawF fmt r).toNat = s.fNat r % 2 ^ fmt.width := by
  simp [State.rawF, State.fNat]

theorem ofInt_toNat (n : Nat) (z : Int) : (BitVec.ofInt n z).toNat = wrap n z := by
  simp [BitVec.toNat_ofInt, wrap]

theorem toNat_eq_wrap {n : Nat} {v : BitVec n} {z : Int} (h : v = BitVec.ofInt n z) : v.toNat = wrap n z := by
  rw [h, ofInt_toNat]

theorem signExtend_toNat {n m : Nat} (v : BitVec n) : (v.signExtend m).toNat = wrap m v.toInt := by
  rw [BitVec.signExtend, ofInt_toNat]

theorem signExtend_toInt {n m : Nat} (v : BitVec n) (h : n ≤ m) : (v.signExtend m).toInt = v.toInt :=
  BitVec.toInt_signExtend_of_le h

theorem wrap_natCast (n v : Nat) : wrap n (v : Int) = v % 2 ^ n := by
  unfold wrap; norm_cast

/-- Adding an integer in a register of `n` bits. -/
theorem add_signExtend_toNat {n m : Nat} (a : BitVec m) (v : BitVec n) :
    (a + v.signExtend m).toNat = wrap m (a.toNat + v.toInt) := by
  apply toNat_eq_wrap
  rw [BitVec.ofInt_add, BitVec.ofInt_natCast, BitVec.ofNat_toNat, BitVec.setWidth_eq]; rfl

/-- The target of a branch or a `jal` as a number. -/
theorem State.target_toNat {n : Nat} (imm : BitVec n) : (s.target imm).toNat = wrap s.xlen (s.pcNat + imm.toInt) :=
  add_signExtend_toNat _ _

/-- The effective address as a number. -/
theorem State.addrNat_eq (rs1 : RegNum) (imm : BitVec 12) : s.addrNat rs1 imm = wrap s.xlen (s.xNat rs1 + imm.toInt) :=
  add_signExtend_toNat _ _

/-- The U-immediate as a number. -/
theorem immU_toInt (imm : BitVec 20) : (imm ++ 0#12).toInt = asSigned 32 (imm.toNat * 2 ^ 12) := by
  rw [← asSigned_toNat]; congr 1
  rw [BitVec.toNat_append]; simp [Nat.shiftLeft_eq]

theorem ofBool_setWidth_toNat (c : Bool) {n : Nat} (h : 0 < n) :
    ((BitVec.ofBool c).setWidth n).toNat = if c then 1 else 0 := by
  have : 1 < 2 ^ n := Nat.one_lt_two_pow (by omega)
  cases c <;> simp [Nat.mod_eq_of_lt this]

theorem State.has_rv64i : s.cfg.has .rv64i = true ↔ s.xlen = 64 := by
  unfold State.xlen Config.has Config.is64; cases s.cfg.xlen <;> simp [Xlen.bits]

theorem State.is64_eq (h : s.xlen = 64) : s.cfg.is64 = true := by
  unfold State.xlen at h; unfold Config.is64; cases hx : s.cfg.xlen <;> simp_all [Xlen.bits]

theorem State.is64_ne (h : s.xlen = 32) : s.cfg.is64 = false := by
  unfold State.xlen at h; unfold Config.is64; cases hx : s.cfg.xlen <;> simp_all [Xlen.bits]

end Sys2Proof.Machine
end

