-- ==== Sys2Proof/Tests/Slice0.lean ====
section
/-! SUPPORT. The model's own tests. Instruction words and results are those the spec prints (the examples of files 40 to 48
and the vectors of files 95 and 96); the witnesses meet the hypotheses of the obligations. -/

set_option Elab.async false

namespace Sys2Proof.Tests

open Sys2Proof Sys2Proof.Machine

/-! ### Decoding: one word of every row, from the example of its rule -/

/-- The word decodes to the instruction. -/
def reads (p : Nat × Instr) : Bool :=
  match decode (BitVec.ofNat 32 p.1) with
  | .ok i => i == p.2
  | .error _ => false

theorem test_decode_rv32i_1 :
    List.all [
      (0x123452b7, .lui 5 74565), (0x00001317, .auipc 6 1), (0xffdff06f, .jal 0 (-4)), (0x004280e7, .jalr 1 5 4),
      (0xfe208ce3, .beq 1 2 (-8)), (0x00209863, .bne 1 2 16), (0x0020c863, .blt 1 2 16), (0x0020d863, .bge 1 2 16),
      (0x0020e863, .bltu 1 2 16), (0x0020f863, .bgeu 1 2 16), (0x00150283, .lb 5 10 1), (0x00251283, .lh 5 10 2),
      (0xffc52283, .lw 5 10 (-4)), (0x00154283, .lbu 5 10 1), (0x00255283, .lhu 5 10 2), (0x00456283, .lwu 5 10 4),
      (0x00550423, .sb 10 5 8), (0x00551423, .sh 10 5 8), (0xfe552e23, .sw 10 5 (-4)), (0xfff30293, .addi 5 6 (-1)),
      (0xfff32293, .slti 5 6 (-1)), (0xfff33293, .sltiu 5 6 (-1)), (0xfff34293, .xori 5 6 (-1)),
      (0x70036293, .ori 5 6 1792), (0xff037293, .andi 5 6 (-16)), (0x00431293, .slli 5 6 4),
      (0x00435293, .srli 5 6 4), (0x40435293, .srai 5 6 4), (0x007302b3, .add 5 6 7), (0x407302b3, .sub 5 6 7)
    ] reads = true := by decide +kernel

theorem test_decode_rv32i_2 :
    List.all [
      (0x007312b3, .sll 5 6 7), (0x007322b3, .slt 5 6 7), (0x007332b3, .sltu 5 6 7), (0x007342b3, .xor 5 6 7),
      (0x007352b3, .srl 5 6 7), (0x407352b3, .sra 5 6 7), (0x007362b3, .or 5 6 7), (0x007372b3, .and 5 6 7),
      (0x0ff0000f, .fence 0 15 15 0 0), (0x0000100f, .fenceI 0 0 0)
    ] reads = true := by decide +kernel

theorem test_decode_rv64i :
    List.all [
      (0x00853283, .ld 5 10 8), (0x00553423, .sd 10 5 8), (0x0013029b, .addiw 5 6 1), (0x0043129b, .slliw 5 6 4),
      (0x0043529b, .srliw 5 6 4), (0x4043529b, .sraiw 5 6 4), (0x007302bb, .addw 5 6 7), (0x407302bb, .subw 5 6 7),
      (0x007312bb, .sllw 5 6 7), (0x007352bb, .srlw 5 6 7), (0x407352bb, .sraw 5 6 7)
    ] reads = true := by decide +kernel

theorem test_decode_rv32m_rv64m :
    List.all [
      (0x027302b3, .mul 5 6 7), (0x027312b3, .mulh 5 6 7), (0x027322b3, .mulhsu 5 6 7), (0x027332b3, .mulhu 5 6 7),
      (0x027342b3, .div 5 6 7), (0x027352b3, .divu 5 6 7), (0x027362b3, .rem 5 6 7), (0x027372b3, .remu 5 6 7),
      (0x027302bb, .mulw 5 6 7), (0x027342bb, .divw 5 6 7), (0x027352bb, .divuw 5 6 7), (0x027362bb, .remw 5 6 7),
      (0x027372bb, .remuw 5 6 7)
    ] reads = true := by decide +kernel

theorem test_decode_rv32a_rv64a :
    List.all [
      (0x160522af, .lrW 5 10 true true), (0x186522af, .scW 5 10 6 false false),
      (0x086522af, .amoswapW 5 10 6 false false), (0x006522af, .amoaddW 5 10 6 false false),
      (0x206522af, .amoxorW 5 10 6 false false), (0x406522af, .amoorW 5 10 6 false false),
      (0x606522af, .amoandW 5 10 6 false false), (0x806522af, .amominW 5 10 6 false false),
      (0xa06522af, .amomaxW 5 10 6 false false), (0xc06522af, .amominuW 5 10 6 false false),
      (0xe06522af, .amomaxuW 5 10 6 false false), (0x100532af, .lrD 5 10 false false),
      (0x186532af, .scD 5 10 6 false false), (0x086532af, .amoswapD 5 10 6 false false),
      (0x006532af, .amoaddD 5 10 6 false false), (0x206532af, .amoxorD 5 10 6 false false),
      (0x406532af, .amoorD 5 10 6 false false), (0x606532af, .amoandD 5 10 6 false false),
      (0x806532af, .amominD 5 10 6 false false), (0xa06532af, .amomaxD 5 10 6 false false),
      (0xc06532af, .amominuD 5 10 6 false false), (0xe06532af, .amomaxuD 5 10 6 false false)
    ] reads = true := by decide +kernel

theorem test_decode_rv32s :
    List.all [
      (0x00000073, .ecall), (0x00100073, .ebreak), (0x00200073, .uret), (0x10200073, .sret), (0x20200073, .hret),
      (0x30200073, .mret), (0x7b200073, .dret), (0x10400073, .sfenceVm 0), (0x10500073, .wfi),
      (0xc00022f3, .rdcycle 5), (0xc01022f3, .rdtime 5), (0xc02022f3, .rdinstret 5), (0xc80022f3, .rdcycleh 5),
      (0xc81022f3, .rdtimeh 5), (0xc82022f3, .rdinstreth 5), (0xc00312f3, .csrrw 5 3072 6),
      (0x00132073, .csrrs 0 1 6), (0x001332f3, .csrrc 5 1 6), (0x00305073, .csrrwi 0 3 0),
      (0x001862f3, .csrrsi 5 1 16), (0x001ff073, .csrrci 0 1 31)
    ] reads = true := by decide +kernel

theorem test_decode_rv32f_rv64f :
    List.all [
      (0x00852287, .flw 5 10 8), (0x00752427, .fsw 10 7 8), (0x407372c3, .fmaddS 5 6 7 8 7),
      (0x407372c7, .fmsubS 5 6 7 8 7), (0x407372cf, .fnmaddS 5 6 7 8 7), (0x407372cb, .fnmsubS 5 6 7 8 7),
      (0x007372d3, .faddS 5 6 7 7), (0x087372d3, .fsubS 5 6 7 7), (0x107372d3, .fmulS 5 6 7 7),
      (0x187372d3, .fdivS 5 6 7 7), (0x207302d3, .fsgnjS 5 6 7), (0x207312d3, .fsgnjnS 5 6 7),
      (0x207322d3, .fsgnjxS 5 6 7), (0x287302d3, .fminS 5 6 7), (0x287312d3, .fmaxS 5 6 7),
      (0x580372d3, .fsqrtS 5 6 7), (0xa07302d3, .fleS 5 6 7), (0xa07312d3, .fltS 5 6 7), (0xa07322d3, .feqS 5 6 7),
      (0xc00372d3, .fcvtWS 5 6 7), (0xc01372d3, .fcvtWuS 5 6 7), (0xd00372d3, .fcvtSW 5 6 7),
      (0xd01372d3, .fcvtSWu 5 6 7), (0xe00302d3, .fmvXS 5 6), (0xe00312d3, .fclassS 5 6), (0xf00302d3, .fmvSX 5 6),
      (0xc02372d3, .fcvtLS 5 6 7), (0xc03372d3, .fcvtLuS 5 6 7), (0xd02372d3, .fcvtSL 5 6 7),
      (0xd03372d3, .fcvtSLu 5 6 7)
    ] reads = true := by decide +kernel

theorem test_decode_rv32d_rv64d_1 :
    List.all [
      (0x00853287, .fld 5 10 8), (0x00753427, .fsd 10 7 8), (0x427372c3, .fmaddD 5 6 7 8 7),
      (0x427372c7, .fmsubD 5 6 7 8 7), (0x427372cf, .fnmaddD 5 6 7 8 7), (0x427372cb, .fnmsubD 5 6 7 8 7),
      (0x027372d3, .faddD 5 6 7 7), (0x0a7372d3, .fsubD 5 6 7 7), (0x127372d3, .fmulD 5 6 7 7),
      (0x1a7372d3, .fdivD 5 6 7 7), (0x227302d3, .fsgnjD 5 6 7), (0x227312d3, .fsgnjnD 5 6 7),
      (0x227322d3, .fsgnjxD 5 6 7), (0x2a7302d3, .fminD 5 6 7), (0x2a7312d3, .fmaxD 5 6 7),
      (0x401372d3, .fcvtSD 5 6 7), (0x420372d3, .fcvtDS 5 6 7), (0x5a0372d3, .fsqrtD 5 6 7),
      (0xa27302d3, .fleD 5 6 7), (0xa27312d3, .fltD 5 6 7), (0xa27322d3, .feqD 5 6 7), (0xc20372d3, .fcvtWD 5 6 7),
      (0xc21372d3, .fcvtWuD 5 6 7), (0xd20372d3, .fcvtDW 5 6 7), (0xd21372d3, .fcvtDWu 5 6 7),
      (0xe20312d3, .fclassD 5 6), (0xc22372d3, .fcvtLD 5 6 7), (0xc23372d3, .fcvtLuD 5 6 7),
      (0xe20302d3, .fmvXD 5 6), (0xd22372d3, .fcvtDL 5 6 7)
    ] reads = true := by decide +kernel

theorem test_decode_rv32d_rv64d_2 :
    List.all [
      (0xd23372d3, .fcvtDLu 5 6 7), (0xf20302d3, .fmvDX 5 6)
    ] reads = true := by decide +kernel

theorem test_decode_rv32fd :
    List.all [
      (0x003022f3, .frcsr 5), (0x002022f3, .frrm 5), (0x001022f3, .frflags 5), (0x003312f3, .fscsr 5 6),
      (0x002312f3, .fsrm 5 6), (0x001312f3, .fsflags 5 6), (0x0020d2f3, .fsrmi 5 1), (0x001fd2f3, .fsflagsi 5 31)
    ] reads = true := by decide +kernel

theorem test_decode_rv32q_rv64q_1 :
    List.all [
      (0x01054287, .flq 5 10 16), (0x00754827, .fsq 10 7 16), (0x467372c3, .fmaddQ 5 6 7 8 7),
      (0x467372c7, .fmsubQ 5 6 7 8 7), (0x467372cf, .fnmaddQ 5 6 7 8 7), (0x467372cb, .fnmsubQ 5 6 7 8 7),
      (0x067372d3, .faddQ 5 6 7 7), (0x0e7372d3, .fsubQ 5 6 7 7), (0x167372d3, .fmulQ 5 6 7 7),
      (0x1e7372d3, .fdivQ 5 6 7 7), (0x267302d3, .fsgnjQ 5 6 7), (0x267312d3, .fsgnjnQ 5 6 7),
      (0x267322d3, .fsgnjxQ 5 6 7), (0x2e7302d3, .fminQ 5 6 7), (0x2e7312d3, .fmaxQ 5 6 7),
      (0x403372d3, .fcvtSQ 5 6 7), (0x460372d3, .fcvtQS 5 6 7), (0x423372d3, .fcvtDQ 5 6 7),
      (0x461372d3, .fcvtQD 5 6 7), (0x5e0372d3, .fsqrtQ 5 6 7), (0xa67302d3, .fleQ 5 6 7),
      (0xa67312d3, .fltQ 5 6 7), (0xa67322d3, .feqQ 5 6 7), (0xc60372d3, .fcvtWQ 5 6 7),
      (0xc61372d3, .fcvtWuQ 5 6 7), (0xd60372d3, .fcvtQW 5 6 7), (0xd61372d3, .fcvtQWu 5 6 7),
      (0xe60312d3, .fclassQ 5 6), (0xc62372d3, .fcvtLQ 5 6 7), (0xc63372d3, .fcvtLuQ 5 6 7)
    ] reads = true := by decide +kernel

theorem test_decode_rv32q_rv64q_2 :
    List.all [
      (0xd62372d3, .fcvtQL 5 6 7), (0xd63372d3, .fcvtQLu 5 6 7)
    ] reads = true := by decide +kernel

theorem test_decode_rv128q :
    List.all [
      (0xe60302d3, .fmvXQ 5 6), (0xf60302d3, .fmvQX 5 6)
    ] reads = true := by decide +kernel

/-! ### Well-formed instructions: an ill-formed one for each check -/

theorem test_wellFormed_branches_refuse_odd_offsets :
    List.all [Instr.beq 1 2 3, .bne 1 2 3, .blt 1 2 3, .bge 1 2 3, .bltu 1 2 3, .bgeu 1 2 3]
      (fun i => !i.wellFormed) = true := by decide

theorem test_wellFormed_jal_refuses_odd_offset : (Instr.jal 1 5).wellFormed = false := by decide

theorem test_wellFormed_csrrs_refuses_read_rows :
    (csrReadRows.all fun a => !(Instr.csrrs 5 a 0).wellFormed) = true := by decide

theorem test_wellFormed_csrrw_refuses_write_rows :
    (csrWriteRows.all fun a => !(Instr.csrrw 5 a 6).wellFormed) = true := by decide

theorem test_wellFormed_csrrwi_refuses_write_rows :
    (csrWriteImmRows.all fun a => !(Instr.csrrwi 5 a 3).wellFormed) = true := by decide

/-! ### Words that are no instruction (spec/95_test_vectors.md, X rows) -/

theorem test_decode_refuses :
    List.all [0x00000001, 0x00000000, 0x00654023, 0x0000200f, 0x0200101b, 0x101522af, 0xffffffff]
      (fun w => match decode (BitVec.ofNat 32 w) with
        | .ok _ => false
        | .error _ => true) = true := by decide +kernel

theorem test_decodeTableWord_lui : decodeTableWord 32 0x123452b7 = some (.lui 5 0x12345) := by decide +kernel

/-! ### Small states -/

/-- Code at 0x1000 that may be read and executed, data at 0x2000 with every permission but execution. -/
def testConfig (xl : Xlen) (flen : Nat) : Config where
  xlen := xl
  extM := true
  extA := true
  extF := 32 ≤ flen
  extD := 64 ≤ flen
  extQ := 128 ≤ flen
  extSys := true
  resetPc := 0x1000
  regions := [⟨0x1000, 0x1000, true, false, true, false⟩, ⟨0x2000, 0x1000, true, true, false, true⟩]
  fminmax2008 := false
  unwritten := .fault

/-- The sixteen bytes at 0x2000 of the load and store vectors (spec/95_test_vectors.md, 2.3). -/
def testImage : List Host.Cell :=
  [(0x2000, 0xff), (0x2001, 0xee), (0x2002, 0xdd), (0x2003, 0xcc), (0x2004, 0xbb), (0x2005, 0xaa), (0x2006, 0x99),
   (0x2007, 0x88), (0x2008, 0x77), (0x2009, 0x66), (0x200a, 0x55), (0x200b, 0x44), (0x200c, 0x33), (0x200d, 0x22),
   (0x200e, 0x11), (0x200f, 0x00)]

/-- A booted state whose environment gives some registers values, and `fcsr` 0. -/
def given (xl : Xlen) (flen : Nat) (xs fs : List (RegNum × Nat)) : State :=
  .boot (testConfig xl flen) testImage
    ⟨xs.map fun p => (p.1, BitVec.ofNat 64 p.2), fs.map fun p => (p.1, BitVec.ofNat 128 p.2), some 0⟩

/-- The state after one step that runs the word. -/
def after (s : State) (w : Nat) : Option State :=
  match step (s.withFetchWord 32 w) with
  | .next t => some t
  | .fault _ => none
  | .refused _ => none

/-- What one step that runs the word shows of an integer register. -/
def xAfter (s : State) (w : Nat) (r : RegNum) : Option Nat := (after s w).map (·.xNat r)

/-- What one step that runs the word shows of a floating-point register and the flags. -/
def fAfter (s : State) (w : Nat) (r : RegNum) : Option (Nat × Nat) := (after s w).map fun t => (t.fNat r, t.fflags.toNat)

/-- The trap one step that runs the word ends in: its exception and recorded value. -/
def trapOf (s : State) (w : Nat) : Option (Exception × Nat) :=
  match step (s.withFetchWord 32 w) with
  | .fault (.trap e info _) => some (e, info.toNat)
  | .next _ => none
  | .refused _ => none

/-- The refusal one step that runs the word ends in. -/
def refusalOf (s : State) (w : Nat) : Option Refusal :=
  match step (s.withFetchWord 32 w) with
  | .refused r => some r
  | .next _ => none
  | .fault _ => none

/-! ### One step: vectors of spec/95_test_vectors.md and spec/96_test_vectors_fp.md -/

theorem test_I1_lui : xAfter (given .rv32 128 [] []) 0x800002b7 5 =
    some 0x80000000 := by decide +kernel

theorem test_I5_auipc : xAfter (given .rv32 128 [] []) 0xfffff297 5 =
    some 0x00000000 := by decide +kernel

theorem test_I11_slti : xAfter (given .rv32 128 [(6, 0xfffffffe)] []) 0xfff32293 5 =
    some 0x00000001 := by decide +kernel

theorem test_I15_sltiu : xAfter (given .rv64 128 [(6, 0x00000000ffffffff)] []) 0xfff33293 5 =
    some 0x0000000000000001 := by decide +kernel

theorem test_I26_slli : trapOf (given .rv32 128 [(6, 0x00000003)] []) 0x02031293 =
    some (.illegalInstruction, 0x02031293) := by decide +kernel

theorem test_I28_srli : xAfter (given .rv64 128 [(6, 0x8000000000000000)] []) 0x03f35293 5 =
    some 0x0000000000000001 := by decide +kernel

theorem test_I30_add : xAfter (given .rv32 128 [(6, 0x7fffffff), (7, 0x00000001)] []) 0x007302b3 5 =
    some 0x80000000 := by decide +kernel

theorem test_I34_sub : xAfter (given .rv32 128 [(6, 0x00000000), (7, 0x00000001)] []) 0x407302b3 5 =
    some 0xffffffff := by decide +kernel

theorem test_I38_sll : xAfter (given .rv64 128 [(6, 0x0000000000000001), (7, 0x0000000000000021)] []) 0x007312b3 5 =
    some 0x0000000200000000 := by decide +kernel

theorem test_I40_sll : xAfter (given .rv64 128 [(6, 0x0000000000000001), (7, 0x0000000000000040)] []) 0x007312b3 5 =
    some 0x0000000000000001 := by decide +kernel

theorem test_I43_sra : xAfter (given .rv64 128 [(6, 0x8000000000000000), (7, 0x000000000000003c)] []) 0x407352b3 5 =
    some 0xfffffffffffffff8 := by decide +kernel

theorem test_J3_jal : (after (given .rv32 128 [] []) 0x000000ef).map (fun t => (t.xNat 1, t.pcNat)) =
    some (0x00001004, 0x00001000) := by decide +kernel

theorem test_J7_jalr : (after (given .rv32 128 [(1, 0x00002000)] []) 0x005080e7).map (fun t => (t.xNat 1, t.pcNat)) =
    some (0x00001004, 0x00002004) := by decide +kernel

theorem test_J11_jalr : trapOf (given .rv64 128 [(5, 0x0000000000000000)] []) 0xfff280e7 =
    some (.instructionAddressMisaligned, 0xfffffffffffffffe) := by decide +kernel

theorem test_J15_bge : (after (given .rv32 128 [(1, 0xffffffff), (2, 0x00000001)] []) 0x0020d863).map (fun t => (t.x, t.pcNat)) =
    some ((given .rv32 128 [(1, 0xffffffff), (2, 0x00000001)] []).x, 0x1004) := by decide +kernel

theorem test_J27_beq : trapOf (given .rv32 128 [] []) 0x00000563 =
    some (.instructionAddressMisaligned, 0x100a) := by decide +kernel

theorem test_LS2_lbu : xAfter (given .rv32 128 [(10, 0x00002000)] []) 0x00054283 5 =
    some 0x000000ff := by decide +kernel

theorem test_LS6_lh : xAfter (given .rv32 128 [(10, 0x00002000)] []) 0x00851283 5 =
    some 0x00006677 := by decide +kernel

theorem test_LS14_lb : xAfter (given .rv64 128 [(10, 0x0000000000002000)] []) 0x00850283 5 =
    some 0x0000000000000077 := by decide +kernel

theorem test_LS18_lw : xAfter (given .rv64 128 [(10, 0x0000000000002000)] []) 0x00452283 5 =
    some 0xffffffff8899aabb := by decide +kernel

theorem test_LS22_ld : xAfter (given .rv64 128 [(10, 0x0000000000002000)] []) 0x00853283 5 =
    some 0x0011223344556677 := by decide +kernel

theorem test_LS26_lw : trapOf (given .rv32 128 [(10, 0x00002008)] []) 0x00152003 =
    some (.loadAddressMisaligned, 0x2009) := by decide +kernel

theorem test_LS30_lb : trapOf (given .rv32 128 [(10, 0x00003000)] []) 0x00050283 =
    some (.loadAccessFault, 0x3000) := by decide +kernel

theorem test_LS42_sh : (after (given .rv64 128 [(6, 0x1122334455667788), (10, 0x0000000000002000)] []) 0x00651423).map (fun t => (List.range 2).map fun k =>
      (Memory.read t.mem (0x2008 + k)).map BitVec.toNat) =
    some [some 0x88, some 0x77] := by decide +kernel

theorem test_LS50_sb : trapOf (given .rv32 128 [(6, 0x00000001), (10, 0x00004000)] []) 0x00650023 =
    some (.storeAmoAccessFault, 0x4000) := by decide +kernel

theorem test_W2_addiw : xAfter (given .rv64 128 [(6, 0x0000000180000000)] []) 0x0003029b 5 =
    some 0xffffffff80000000 := by decide +kernel

theorem test_W6_slliw : xAfter (given .rv64 128 [(6, 0xffffffff40000000)] []) 0x0013129b 5 =
    some 0xffffffff80000000 := by decide +kernel

theorem test_W14_subw : xAfter (given .rv64 128 [(6, 0x0000000000000000), (7, 0x0000000000000001)] []) 0x407302bb 5 =
    some 0xffffffffffffffff := by decide +kernel

theorem test_W18_srlw : xAfter (given .rv64 128 [(6, 0xffffffff80000000), (7, 0x000000000000001f)] []) 0x007352bb 5 =
    some 0x0000000000000001 := by decide +kernel

theorem test_M2_mul : xAfter (given .rv32 128 [(6, 0x00010000), (7, 0x00010000)] []) 0x027302b3 5 =
    some 0x00000000 := by decide +kernel

theorem test_M6_mulh : xAfter (given .rv32 128 [(6, 0x80000000), (7, 0x00000001)] []) 0x027312b3 5 =
    some 0xffffffff := by decide +kernel

theorem test_M10_mulhu : xAfter (given .rv32 128 [(6, 0xffffffff), (7, 0xffffffff)] []) 0x027332b3 5 =
    some 0xfffffffe := by decide +kernel

theorem test_M14_div : xAfter (given .rv32 128 [(6, 0x00000007), (7, 0x00000000)] []) 0x027342b3 5 =
    some 0xffffffff := by decide +kernel

theorem test_M26_remu : xAfter (given .rv32 128 [(6, 0x80000000), (7, 0xffffffff)] []) 0x027372b3 5 =
    some 0x80000000 := by decide +kernel

theorem test_M30_mulh : xAfter (given .rv64 128 [(6, 0xffffffffffffffff), (7, 0xffffffffffffffff)] []) 0x027312b3 5 =
    some 0x0000000000000000 := by decide +kernel

theorem test_M34_mulhsu : xAfter (given .rv64 128 [(6, 0x0000000000000001), (7, 0xffffffffffffffff)] []) 0x027322b3 5 =
    some 0x0000000000000000 := by decide +kernel

theorem test_M38_div : xAfter (given .rv64 128 [(6, 0x0000000000000007), (7, 0xfffffffffffffffe)] []) 0x027342b3 5 =
    some 0xfffffffffffffffd := by decide +kernel

theorem test_M46_rem : xAfter (given .rv64 128 [(6, 0x0000000000000007), (7, 0xfffffffffffffffe)] []) 0x027362b3 5 =
    some 0x0000000000000001 := by decide +kernel

theorem test_M54_mulw : xAfter (given .rv64 128 [(6, 0x00000000ffffffff), (7, 0x00000000ffffffff)] []) 0x027302bb 5 =
    some 0x0000000000000001 := by decide +kernel

theorem test_M58_divw : xAfter (given .rv64 128 [(6, 0x00000001fffffff9), (7, 0x0000000000000002)] []) 0x027342bb 5 =
    some 0xfffffffffffffffd := by decide +kernel

theorem test_M62_divuw : xAfter (given .rv64 128 [(6, 0xffffffff00000008), (7, 0xffffffff00000002)] []) 0x027352bb 5 =
    some 0x0000000000000004 := by decide +kernel

theorem test_M66_remw : xAfter (given .rv64 128 [(6, 0x0000000000000007), (7, 0x00000000fffffffe)] []) 0x027362bb 5 =
    some 0x0000000000000001 := by decide +kernel

theorem test_M70_mulw : trapOf (given .rv32 128 [(6, 0x00000001), (7, 0x00000001)] []) 0x027302bb =
    some (.illegalInstruction, 0x027302bb) := by decide +kernel

theorem test_S24_csrrw : (after { given .rv32 128 [(6, 0x000000ff)] [] with frm := 5 } 0x001312f3).map (fun t => (t.xNat 5, t.fflags.toNat)) =
    some (0x00000000, 0x1f) := by decide +kernel

theorem test_S28_csrrs : xAfter { given .rv32 128 [(6, 0x00000000)] [] with frm := 2, fflags := 4 } 0x003322f3 5 =
    some 0x00000044 := by decide +kernel

theorem test_S32_csrrwi : (after { given .rv32 128 [] [] with frm := 7, fflags := 31 } 0x00305073).map (fun t => (t.frm, t.fflags)) = some (0, 0) := by decide +kernel

theorem test_S36_csrrs : trapOf (given .rv32 128 [] []) 0x300022f3 =
    some (.illegalInstruction, 0x300022f3) := by decide +kernel

theorem test_S44_fscsr : (after { given .rv32 128 [(6, 0x0000005a)] [] with frm := 2, fflags := 9 } 0x003312f3).map (fun t => (t.xNat 5, t.fflags.toNat)) =
    some (0x00000049, 0x1a) := by decide +kernel

theorem test_S48_fsflagsi : (after { given .rv32 128 [] [] with frm := 2, fflags := 9 } 0x001fd2f3).map (fun t => (t.xNat 5, t.fflags.toNat)) =
    some (0x00000009, 0x1f) := by decide +kernel

theorem test_F1_fadd_s : fAfter (given .rv32 32 [] [(2, 0x3f800000), (3, 0x40000000)]) 0x003100d3 1 =
    some (0x40400000, 0) := by decide +kernel

theorem test_F13_fadd_s : fAfter (given .rv32 32 [] [(2, 0x3f800000), (3, 0x33800000)]) 0x003140d3 1 =
    some (0x3f800001, 0x01) := by decide +kernel

theorem test_F19_fadd_s : trapOf { given .rv32 32 [] [(2, 0x3f800000), (3, 0x40000000)] with frm := 7 } 0x003170d3 =
    some (.illegalInstruction, 0x003170d3) := by decide +kernel

theorem test_F31_fmul_s : fAfter (given .rv32 32 [] [(2, 0xbf800000), (3, 0x00000000)]) 0x103100d3 1 =
    some (0x80000000, 0) := by decide +kernel

theorem test_F37_fmul_s : fAfter (given .rv32 32 [] [(2, 0x3f918e00), (3, 0x00709000)]) 0x103100d3 1 =
    some (0x00800000, 0x01) := by decide +kernel

theorem test_F43_fdiv_s : fAfter (given .rv32 32 [] [(2, 0xbf800000), (3, 0x00000000)]) 0x183100d3 1 =
    some (0xff800000, 0x08) := by decide +kernel

theorem test_F49_fsqrt_s : fAfter (given .rv32 32 [] [(2, 0x40000000)]) 0x580130d3 1 =
    some (0x3fb504f4, 0x01) := by decide +kernel

theorem test_F55_fsqrt_s : fAfter (given .rv32 32 [] [(2, 0xff800000)]) 0x580100d3 1 =
    some (0x7fc00000, 0x10) := by decide +kernel

theorem test_FM3_fnmadd_s : fAfter (given .rv32 32 [] [(2, 0x40000000), (3, 0x40400000), (4, 0x3f800000)]) 0x203100cf 1 =
    some (0xc0e00000, 0) := by decide +kernel

theorem test_FM9_fmadd_s : fAfter (given .rv32 32 [] [(2, 0x3f800000), (3, 0x3f800000), (4, 0xbf800000)]) 0x203120c3 1 =
    some (0x80000000, 0) := by decide +kernel

theorem test_FS5_fsgnjn_s : fAfter (given .rv32 32 [] [(2, 0xbf800000)]) 0x202110d3 1 =
    some (0x3f800000, 0) := by decide +kernel

theorem test_FS17_fmin_s : fAfter (given .rv32 32 [] [(2, 0x3f800000), (3, 0x7f800001)]) 0x283100d3 1 =
    some (0x3f800000, 0x10) := by decide +kernel

theorem test_FS41_feq_s : xAfter (given .rv32 32 [] [(2, 0x3f800000), (3, 0x7fc00000)]) 0xa03122d3 5 =
    some 0x00000000 := by decide +kernel

theorem test_FS59_fle_s : (after (given .rv32 32 [] [(2, 0x3f800000), (3, 0x7f800001)]) 0xa03102d3).map (fun t => (t.xNat 5, t.fflags.toNat)) =
    some (0x00000000, 0x10) := by decide +kernel

theorem test_FS71_fclass_s : xAfter (given .rv32 32 [] [(2, 0xff800001)]) 0xe00112d3 5 =
    some 0x00000100 := by decide +kernel

theorem test_FC2_fcvt_w_s : (after (given .rv32 32 [] [(2, 0x40200000)]) 0xc00112d3).map (fun t => (t.xNat 5, t.fflags.toNat)) =
    some (0x00000002, 0x01) := by decide +kernel

theorem test_FC14_fcvt_w_s : (after (given .rv32 32 [] [(2, 0x7fc00000)]) 0xc00102d3).map (fun t => (t.xNat 5, t.fflags.toNat)) =
    some (0x7fffffff, 0x10) := by decide +kernel

theorem test_FC26_fcvt_wu_s : (after (given .rv32 32 [] [(2, 0xbf000000)]) 0xc01102d3).map (fun t => (t.xNat 5, t.fflags.toNat)) =
    some (0x00000000, 0x01) := by decide +kernel

theorem test_FC38_fcvt_wu_s : (after (given .rv32 32 [] [(2, 0xbf800000)]) 0xc01102d3).map (fun t => (t.xNat 5, t.fflags.toNat)) =
    some (0x00000000, 0x10) := by decide +kernel

theorem test_FC44_fcvt_s_w : fAfter (given .rv32 32 [(6, 0x01000001)] []) 0xd00300d3 1 =
    some (0x4b800000, 0x01) := by decide +kernel

theorem test_FC68_fcvt_l_s : xAfter (given .rv64 32 [] [(2, 0xdf000000)]) 0xc02102d3 5 =
    some 0x8000000000000000 := by decide +kernel

theorem test_FC80_fcvt_wu_s : xAfter (given .rv64 32 [] [(2, 0x4f000000)]) 0xc01102d3 5 =
    some 0xffffffff80000000 := by decide +kernel

theorem test_FC92_fcvt_s_wu : fAfter (given .rv64 32 [(6, 0xffffffff80000000)] []) 0xd01300d3 1 =
    some (0x4f000000, 0) := by decide +kernel

theorem test_FD5_fsub_d : fAfter (given .rv32 64 [] [(2, 0x3ff0000000000000), (3, 0x3ff0000000000000)]) 0x0a3120d3 1 =
    some (0x8000000000000000, 0) := by decide +kernel

theorem test_FD11_fdiv_d : fAfter (given .rv32 64 [] [(2, 0x3ff0000000000000), (3, 0x4008000000000000)]) 0x1a3130d3 1 =
    some (0x3fd5555555555556, 0x01) := by decide +kernel

theorem test_FD17_fmadd_d : fAfter (given .rv32 64 [] [(2, 0x4000000000000000), (3, 0x4008000000000000), (4, 0x3ff0000000000000)]) 0x223100c3 1 =
    some (0x401c000000000000, 0) := by decide +kernel

theorem test_FD53_fclass_d : xAfter (given .rv32 64 [] [(2, 0x0000000000000000)]) 0xe20112d3 5 =
    some 0x00000010 := by decide +kernel

theorem test_DC4_fcvt_s_d : fAfter (given .rv32 64 [] [(2, 0x483d6329f1c35ca5)]) 0x401110d3 1 =
    some (0xffffffff7f7fffff, 0x05) := by decide +kernel

theorem test_DC10_fcvt_d_s : fAfter (given .rv32 64 [] [(2, 0xffffffff3dcccccd)]) 0x420100d3 1 =
    some (0x3fb99999a0000000, 0) := by decide +kernel

theorem test_DC16_fcvt_w_d : (after (given .rv32 64 [] [(2, 0x41dfffffffe00000)]) 0xc20102d3).map (fun t => (t.xNat 5, t.fflags.toNat)) =
    some (0x7fffffff, 0x10) := by decide +kernel

theorem test_DC34_fcvt_l_d : xAfter (given .rv64 64 [] [(2, 0xc3e0000000000000)]) 0xc22102d3 5 =
    some 0x8000000000000000 := by decide +kernel

theorem test_DC46_fcvt_d_lu : fAfter (given .rv64 64 [(6, 0xffffffffffffffff)] []) 0xd23310d3 1 =
    some (0x43efffffffffffff, 0x01) := by decide +kernel

theorem test_B12_fadd_s : fAfter (given .rv32 64 [] [(2, 0xfffffffe3f800000), (3, 0xffffffff40000000)]) 0x003100d3 1 =
    some (0xffffffff7fc00000, 0) := by decide +kernel

theorem test_B24_fcvt_s_w : fAfter (given .rv32 64 [(6, 0x00000001)] []) 0xd00300d3 1 =
    some (0xffffffff3f800000, 0) := by decide +kernel

theorem test_Q4_fmul_q : fAfter (given .rv32 128 [] [(2, 0x40008000000000000000000000000000), (3, 0x40008000000000000000000000000000)]) 0x163100d3 1 =
    some (0x40022000000000000000000000000000, 0) := by decide +kernel

theorem test_Q10_fadd_q : fAfter (given .rv32 128 [] [(2, 0x7fff0000000000000000000000000000), (3, 0xffff0000000000000000000000000000)]) 0x063100d3 1 =
    some (0x7fff8000000000000000000000000000, 0x10) := by decide +kernel

theorem test_Q16_fnmsub_q : fAfter (given .rv32 128 [] [(2, 0x40000000000000000000000000000000), (3, 0x40008000000000000000000000000000), (4, 0x3fff0000000000000000000000000000)]) 0x263100cb 1 =
    some (0xc0014000000000000000000000000000, 0) := by decide +kernel

theorem test_Q28_flt_q : xAfter (given .rv32 128 [] [(2, 0x3fff0000000000000000000000000000), (3, 0x40000000000000000000000000000000)]) 0xa63112d3 5 =
    some 0x00000001 := by decide +kernel

theorem test_Q34_fclass_q : xAfter (given .rv32 128 [] [(2, 0x80000000000000000000000000000001)]) 0xe60112d3 5 =
    some 0x00000004 := by decide +kernel

theorem test_Q46_fcvt_d_q : fAfter (given .rv32 128 [] [(2, 0x7fff0000000000000000000000000001)]) 0x423100d3 1 =
    some (0xffffffffffffffff7ff8000000000000, 0x10) := by decide +kernel

theorem test_X7_reserved_word : trapOf (given .rv32 128 [(6, 0x00000000), (10, 0x00002000)] []) 0x00654023 =
    some (.illegalInstruction, 0x00654023) := by decide +kernel

theorem test_sw_stores_little_endian :
    (after (given .rv64 128 [(5, 0x12345678), (10, 0x2000)] []) 0x00552423).map
      (fun t => ((List.range 6).map fun k => (Memory.read t.mem (0x2007 + k)).map BitVec.toNat, t.dirty)) =
    some ([some 0x88, some 0x78, some 0x56, some 0x34, some 0x12, some 0x33], [0x2008, 0x2009, 0x200a, 0x200b]) := by
  decide +kernel

theorem test_sw_misaligned : trapOf (given .rv64 128 [(10, 0x2001)] []) 0x00552423 =
    some (.storeAmoAddressMisaligned, 0x2009) := by decide +kernel

theorem test_fence_i_forgets : (after { given .rv64 128 [] [] with dirty := [0x2000] } 0x0000100f).map (·.dirty) =
    some [] := by decide +kernel

theorem test_lr_w_reserves : (after (given .rv64 128 [(10, 0x2004)] []) 0x100522af).map (fun t => (t.xNat 5, t.lr)) =
    some (0xffffffff8899aabb, some 0x2004) := by decide +kernel

theorem test_sc_w_without_reservation_fails :
    (after (given .rv64 128 [(6, 0x55), (10, 0x2000)] []) 0x186522af).map
      (fun t => (t.xNat 5, t.mem.length, t.lr, t.draws)) = some (1, 20, none, 0) := by decide +kernel

theorem test_amomaxu_w : (after (given .rv64 128 [(6, 1), (10, 0x2000)] []) 0xe06522af).map
    (fun t => (t.xNat 5, Memory.read t.mem 0x2000)) = some (0xffffffffccddeeff, some 0xff) := by decide +kernel

theorem test_ecall_traps : trapOf (given .rv64 128 [] []) 0x00000073 = some (.environmentCall, 0x1000) := by
  decide +kernel

theorem test_ebreak_traps : trapOf (given .rv64 128 [] []) 0x00100073 = some (.breakpoint, 0x1000) := by decide +kernel

theorem test_wfi_refused : refusalOf (given .rv64 128 [] []) 0x10500073 =
    some (.waitForInterruptUndefined "wfi" 0x1000) := by decide +kernel

theorem test_mret_refused : refusalOf (given .rv64 128 [] []) 0x30200073 =
    some (.trapReturnUndefined "mret" 0x1000) := by decide +kernel

theorem test_fmv_x_q_illegal : trapOf (given .rv64 128 [] []) 0xe60302d3 = some (.illegalInstruction, 0xe60302d3) := by
  decide +kernel

/-- Running a stored instruction without `fence.i` is refused (spec/20_memory.md R75). -/
theorem test_dirty_fetch_refused :
    (match step { (given .rv64 128 [] []).withFetchWord 32 0x13 with dirty := [0x1003] } with
      | .refused r => some r
      | .next _ => none
      | .fault _ => none) = some (.dirtyFetch 0x1000) := by decide +kernel

/-- The first instruction after reset runs where `withFetchWord` puts it. -/
theorem test_reset_runs_placed_word : xAfter State.reset 0xfff00293 5 = some 0xffffffffffffffff := by decide +kernel

/-! ### Witnesses: states and operands that meet the hypotheses of the obligations -/

/-- A result is a next state. -/
def isNext (r : Result) : Bool :=
  match r with
  | .next _ => true
  | .fault _ => false
  | .refused _ => false

theorem exists_next {r : Result} (h : isNext r = true) : ∃ t, r = .next t := by
  cases r with
  | next t => exact ⟨t, rfl⟩
  | fault _ => cases h
  | refused _ => cases h

/-- The bytes of memory from an address on. -/
def bytesAt (s : State) (a k : Nat) : Byte := (Memory.read s.mem (a + k)).getD 0

/-- `x1` = -1, `x2` = 1, `x6` the least signed number, `x7` = -1, `x10` at the data, `x11` at their last words, `x12`
where no byte is known, `x13` outside every region, `x14` in code. -/
def demo (xl : Xlen) : State :=
  given xl 128 [(1, 2 ^ xl.bits - 1), (2, 1), (6, 2 ^ (xl.bits - 1)), (7, 2 ^ xl.bits - 1), (10, 0x2000), (11, 0x200c),
    (12, 0x2ff0), (13, 0x3000), (14, 0x1000)]
    [(1, 2 ^ 128 - 2 ^ 32 + 0x3f800000), (2, 0x3f800000), (3, 2 ^ 128 - 2 ^ 31), (4, 2 ^ 128 - 2 ^ 32)]

theorem witness_DecodeInvertsEncode : (Instr.beq 1 2 16).wellFormed = true ∧ (Instr.csrrs 5 1 6).wellFormed = true := by
  decide

theorem witness_EncodeInvertsDecode : decode 0x00208863 = .ok (.beq 1 2 16) := rfl

theorem witness_StepRunsDecodedInstruction :
    (Instr.beq 1 2 16).wellFormed = true ∧ ((demo .rv64).withFetchWord 32 0x00208863).fetchable ∧
    ((demo .rv64).withFetchWord 32 0x00208863).fetchClean ∧
    ((demo .rv64).withFetchWord 32 0x00208863).holds 0x1000 4 (byteOfWord (encode (.beq 1 2 16))) := by decide +kernel

theorem witness_FetchStopsTheRun_access : ¬ { demo .rv64 with pc := 0x2000 }.fetchable := by decide +kernel

theorem witness_FetchStopsTheRun_dirty :
    { demo .rv64 with pc := 0x1ffc, dirty := [0x1fff] }.fetchable ∧
    ¬ { demo .rv64 with pc := 0x1ffc, dirty := [0x1fff] }.fetchClean := by decide +kernel

theorem witness_FetchStopsTheRun_word :
    ((demo .rv64).withFetchWord 32 0).fetchable ∧ ((demo .rv64).withFetchWord 32 0).fetchClean ∧
    ((demo .rv64).withFetchWord 32 0).holds 0x1000 4 (byteOfWord 0) ∧ ∀ i, decode 0 ≠ .ok i :=
  ⟨by decide +kernel, by decide +kernel, by decide +kernel, fun i h => by
    have e : decode 0 = .error .notThirtyTwoBits := rfl
    rw [e] at h; cases h⟩

theorem witness_StepKeepsInvariant :
    (State.reset.withFetchWord 32 0x00552423).Inv ∧ ∃ t, step (State.reset.withFetchWord 32 0x00552423) = .next t :=
  ⟨⟨by decide +kernel, by decide +kernel, by decide +kernel, by decide +kernel, by decide +kernel, by decide +kernel,
    by decide +kernel, fun _ h => by simp [State.withFetchWord, State.reset, State.boot] at h, by decide +kernel,
    by decide +kernel⟩,
    exists_next (by decide +kernel)⟩

theorem witness_ResetMeetsInvariant :
    (testConfig .rv32 64).wf ∧ Memory.wf [(0x2000, 1), (0xffffffff, 2)] ∧
    ∀ c ∈ ([(0x2000, 1), (0xffffffff, 2)] : List Host.Cell), c.1 < 2 ^ (testConfig .rv32 64).xlen.bits := by
  decide +kernel

/-- `x10`, `f3` and `fcsr` are given values, `x10` twice. -/
theorem witness_ResetLeavesStatedValues :
    (⟨[(10, 5), (10, 6)], [(3, 7)], some 0xe1⟩ : InitialValues).x.lookup 10 = some 5 ∧ (10 : RegNum) ≠ 0 ∧
    (⟨[(10, 5), (10, 6)], [(3, 7)], some 0xe1⟩ : InitialValues).f.lookup 3 = some 7 ∧
    (⟨[(10, 5), (10, 6)], [(3, 7)], some 0xe1⟩ : InitialValues).fcsr = some 0xe1 := by decide +kernel

theorem test_boot_given_values :
    let s := State.boot (testConfig .rv32 64) [] ⟨[(10, 0x100000005), (10, 6), (0, 9)], [(3, 7)], some 0xe1⟩
    s.xNat 10 = 5 ∧ s.xNat 0 = 0 ∧ s.x[0] = 0 ∧ s.fNat 3 = 7 ∧ s.frm = 7 ∧ s.fflags = 1 := by decide +kernel

theorem witness_JumpAndLinkLaws :
    (8 : BitVec 21).toNat % 2 = 0 ∧ wrap 64 ((demo .rv64).pcNat + (8 : BitVec 21).toInt) % 4 = 0 ∧
    (2 : BitVec 21).toNat % 2 = 0 ∧ wrap 64 ((demo .rv64).pcNat + (2 : BitVec 21).toInt) % 4 ≠ 0 ∧
    wrap 64 ((demo .rv64).xNat 10 + (1 : BitVec 12).toInt) / 2 * 2 % 4 = 0 ∧
    wrap 64 ((demo .rv64).xNat 10 + (2 : BitVec 12).toInt) / 2 * 2 % 4 ≠ 0 := by decide +kernel

theorem witness_BranchLaws :
    (16 : BitVec 13).toNat % 2 = 0 ∧ wrap 64 ((demo .rv64).pcNat + (16 : BitVec 13).toInt) % 4 = 0 ∧
    (-2 : BitVec 13).toNat % 2 = 0 ∧ wrap 64 ((demo .rv64).pcNat + (-2 : BitVec 13).toInt) % 4 ≠ 0 ∧
    (demo .rv64).xNat 1 ≠ (demo .rv64).xNat 2 ∧ (demo .rv64).xNat 1 = (demo .rv64).xNat 7 ∧
    (demo .rv64).xInt 1 < (demo .rv64).xInt 2 ∧ (demo .rv64).xInt 1 ≤ (demo .rv64).xInt 2 ∧
    ¬ (demo .rv64).xNat 1 < (demo .rv64).xNat 2 ∧ (demo .rv64).xNat 2 ≤ (demo .rv64).xNat 1 := by decide +kernel

theorem witness_LoadLaws_turned_away :
    (demo .rv64).addrNat 10 7 % 8 ≠ 0 ∧ (demo .rv64).addrNat 13 0 % 8 = 0 ∧
    ¬ (demo .rv64).allowed .load ((demo .rv64).addrNat 13 0) 1 ∧
    (demo .rv64).addrNat 10 1 % 2 ≠ 0 ∧ (demo .rv64).addrNat 10 3 % 4 ≠ 0 := by decide +kernel

theorem witness_LoadLaws_completes :
    (demo .rv32).xlen = 32 ∧ (demo .rv64).xlen = 64 ∧ (demo .rv64).addrNat 11 (-4) % 8 = 0 ∧
    (demo .rv64).allowed .load ((demo .rv64).addrNat 11 (-4)) 8 ∧
    (demo .rv64).holds ((demo .rv64).addrNat 11 (-4)) 8 (bytesAt (demo .rv64) 0x2008) ∧
    (demo .rv32).allowed .load ((demo .rv32).addrNat 11 3) 1 ∧
    (demo .rv32).holds ((demo .rv32).addrNat 11 3) 1 (bytesAt (demo .rv32) 0x200f) := by decide +kernel

theorem witness_LoadsOfUnknownBytes :
    (demo .rv64).addrNat 12 8 % 8 = 0 ∧ (demo .rv64).allowed .load ((demo .rv64).addrNat 12 8) 8 ∧
    (demo .rv64).lacks ((demo .rv64).addrNat 12 8) 8 ∧ (demo .rv64).cfg.unwritten = .fault ∧
    State.reset.addrNat 0 0 % 4 = 0 ∧ State.reset.allowed .load (State.reset.addrNat 0 0) 4 ∧
    State.reset.lacks (State.reset.addrNat 0 0) 4 ∧ State.reset.cfg.unwritten = .anyValue ∧
    State.reset.xlen = 64 := by decide +kernel

theorem witness_LoadsOfUnknownBytes_float_and_atomic :
    (demo .rv64).cfg.extF = true ∧ (demo .rv64).cfg.extD = true ∧ (demo .rv64).cfg.extQ = true ∧
    (demo .rv64).cfg.extA = true ∧ (demo .rv64).addrNat 12 0 % 16 = 0 ∧
    (demo .rv64).allowed .load ((demo .rv64).addrNat 12 0) 16 ∧ (demo .rv64).lacks ((demo .rv64).addrNat 12 0) 16 ∧
    (demo .rv64).xNat 12 % 8 = 0 ∧ (demo .rv64).allowed .reserved ((demo .rv64).xNat 12) 8 ∧
    (demo .rv64).allowed .amo ((demo .rv64).xNat 12) 8 ∧ (demo .rv64).lacks ((demo .rv64).xNat 12) 8 := by
  decide +kernel

theorem witness_LoadsOfUnknownBytes_fetch :
    (demo .rv64).fetchable ∧ (demo .rv64).fetchClean ∧ (demo .rv64).lacks (demo .rv64).pcNat 4 ∧
    State.reset.fetchable ∧ State.reset.fetchClean ∧ State.reset.lacks State.reset.pcNat 4 := by decide +kernel

theorem witness_StoreLaws :
    (demo .rv64).addrNat 10 9 % 2 ≠ 0 ∧ (demo .rv64).addrNat 14 0 % 8 = 0 ∧
    ¬ (demo .rv64).allowed .store ((demo .rv64).addrNat 14 0) 8 ∧
    (demo .rv64).addrNat 12 8 % 8 = 0 ∧ (demo .rv64).allowed .store ((demo .rv64).addrNat 12 8) 8 ∧
    (demo .rv64).allowed .store ((demo .rv64).addrNat 12 15) 1 ∧
    (demo .rv64).xlen = 64 ∧ (demo .rv32).xlen = 32 := by decide +kernel

theorem witness_ImmediateShiftResults :
    (31 : BitVec 6).toNat < (demo .rv32).xlen ∧ (63 : BitVec 6).toNat < (demo .rv64).xlen ∧
    (demo .rv32).xlen ≤ (32 : BitVec 6).toNat ∧ (demo .rv32).xlen ≤ (63 : BitVec 6).toNat := by decide +kernel

theorem witness_WordOperationResults :
    (demo .rv64).xlen = 64 ∧ (demo .rv32).xlen = 32 ∧ (0x02e1901b : InstrWord) &&& 0xfe00707f = 0x0200101b ∧
    (0x0200501b : InstrWord) &&& 0xfe00707f = 0x0200501b ∧ (0x4200501b : InstrWord) &&& 0xfe00707f = 0x4200501b := by
  decide +kernel

theorem witness_MultiplyResults : (demo .rv64).cfg.extM = true ∧ (demo .rv64).xlen = 64 := by decide +kernel

theorem witness_DivideResults :
    (demo .rv64).cfg.extM = true ∧ (demo .rv64).xlen = 64 ∧ (demo .rv64).xNat 0 = 0 ∧
    (demo .rv64).xInt 6 = -2 ^ 63 ∧ (demo .rv64).xInt 7 = -1 ∧ (demo .rv64).wNat 6 = 0 ∧ (demo .rv32).wInt 6 = -2 ^ 31 ∧
    (demo .rv32).wInt 7 = -1 := by decide +kernel

theorem witness_LoadReservedLaws :
    (demo .rv64).cfg.extA = true ∧ (demo .rv64).xlen = 64 ∧ (demo .rv64).xNat 11 % 8 ≠ 0 ∧
    (demo .rv64).xNat 14 % 8 = 0 ∧ ¬ (demo .rv64).allowed .reserved ((demo .rv64).xNat 14) 8 ∧
    (demo .rv64).xNat 10 % 8 = 0 ∧ (demo .rv64).allowed .reserved ((demo .rv64).xNat 10) 8 ∧
    (demo .rv64).holds ((demo .rv64).xNat 10) 8 (bytesAt (demo .rv64) 0x2000) ∧
    (0x101522af : InstrWord) &&& 0xf800707f = 0x1000202f ∧ (0x101522af : InstrWord) &&& 0x01f00000 ≠ 0 ∧
    (0x11f532af : InstrWord) &&& 0xf800707f = 0x1000302f ∧ (0x11f532af : InstrWord) &&& 0x01f00000 ≠ 0 := by
  decide +kernel

theorem witness_StoreConditionalLaws :
    (demo .rv64).cfg.extA = true ∧ (demo .rv64).xlen = 64 ∧ (demo .rv64).xNat 11 % 8 ≠ 0 ∧
    ¬ (demo .rv64).allowed .conditional ((demo .rv64).xNat 14) 8 ∧ (demo .rv64).xNat 14 % 8 = 0 ∧
    (demo .rv64).xNat 10 % 8 = 0 ∧ (demo .rv64).allowed .conditional ((demo .rv64).xNat 10) 8 ∧
    (demo .rv64).reservation.map BitVec.toNat ≠ some ((demo .rv64).xNat 10) ∧
    ({ demo .rv64 with lr := some 0x2000 } : State).reservation.map BitVec.toNat =
      some (({ demo .rv64 with lr := some 0x2000 } : State).xNat 10) := by decide +kernel

theorem witness_AmoWordLaws :
    (demo .rv32).cfg.extA = true ∧ (demo .rv32).xNat 1 % 4 ≠ 0 ∧ (demo .rv32).xNat 14 % 4 = 0 ∧
    ¬ (demo .rv32).allowed .amo ((demo .rv32).xNat 14) 4 ∧ (demo .rv32).xNat 11 % 4 = 0 ∧
    (demo .rv32).allowed .amo ((demo .rv32).xNat 11) 4 ∧
    (demo .rv32).holds ((demo .rv32).xNat 11) 4 (bytesAt (demo .rv32) 0x200c) := by decide +kernel

theorem witness_AmoDoublewordLaws :
    (demo .rv64).cfg.extA = true ∧ (demo .rv64).xlen = 64 ∧ (demo .rv64).xNat 11 % 8 ≠ 0 ∧
    (demo .rv64).xNat 14 % 8 = 0 ∧ ¬ (demo .rv64).allowed .amo ((demo .rv64).xNat 14) 8 ∧
    (demo .rv64).xNat 10 % 8 = 0 ∧ (demo .rv64).allowed .amo ((demo .rv64).xNat 10) 8 ∧
    (demo .rv64).holds ((demo .rv64).xNat 10) 8 (bytesAt (demo .rv64) 0x2000) := by decide +kernel

theorem witness_CallAndBreakpointTrap : (demo .rv64).cfg.extSys = true := by decide +kernel

theorem witness_PrivilegedInstructionsRefused : (demo .rv32).cfg.extSys = true := by decide +kernel

theorem witness_CounterReadLaws :
    (demo .rv64).cfg.extSys = true ∧ (demo .rv64).xlen = 64 ∧ (demo .rv32).cfg.extSys = true ∧ (demo .rv32).xlen = 32 := by
  decide +kernel

theorem witness_CsrInstructionLaws :
    (demo .rv64).cfg.extSys = true ∧ (demo .rv64).csrExists 0x001 ∧ ¬ csrIsCounter 0x001 ∧
    (demo .rv64).csrExists 0x003 ∧ ¬ csrIsCounter 0x003 ∧ (6 : RegNum) ≠ 0 ∧ (1 : BitVec 5) ≠ 0 :=
  ⟨by decide +kernel, by decide +kernel, by decide +kernel, by decide +kernel, by decide +kernel, by decide, by decide⟩

theorem witness_CsrInstructionLaws_counters :
    (demo .rv64).csrExists 0xc02 ∧ csrIsCounter 0xc02 ∧ (demo .rv32).csrExists 0xc82 ∧ csrIsCounter 0xc82 :=
  ⟨by decide +kernel, by decide +kernel, by decide +kernel, by decide +kernel⟩

theorem witness_CsrInstructionLaws_absent :
    ¬ (demo .rv64).csrExists 0xc80 ∧ ¬ (demo .rv64).csrExists 0x000 ∧ ¬ (demo .rv64).csrExists 0x004 :=
  ⟨by decide +kernel, by decide +kernel, by decide +kernel⟩

theorem witness_FcsrPseudoInstructions : (demo .rv64).cfg.extF = true := by decide +kernel

theorem witness_FloatLoadLaws :
    (demo .rv32).cfg.extF = true ∧ (demo .rv32).cfg.extD = true ∧ (demo .rv32).cfg.extQ = true ∧
    (demo .rv32).addrNat 10 8 % 16 ≠ 0 ∧ (demo .rv32).addrNat 13 0 % 16 = 0 ∧
    ¬ (demo .rv32).allowed .load ((demo .rv32).addrNat 13 0) 16 ∧ (demo .rv32).addrNat 10 0 % 16 = 0 ∧
    (demo .rv32).allowed .load ((demo .rv32).addrNat 10 0) 16 ∧
    (demo .rv32).holds ((demo .rv32).addrNat 10 0) 16 (bytesAt (demo .rv32) 0x2000) := by decide +kernel

theorem witness_FloatStoreLaws :
    (demo .rv32).cfg.extF = true ∧ (demo .rv32).cfg.extD = true ∧ (demo .rv32).cfg.extQ = true ∧
    (demo .rv32).addrNat 10 8 % 16 ≠ 0 ∧ (demo .rv32).addrNat 14 0 % 16 = 0 ∧
    ¬ (demo .rv32).allowed .store ((demo .rv32).addrNat 14 0) 16 ∧ (demo .rv32).addrNat 12 0 % 16 = 0 ∧
    (demo .rv32).allowed .store ((demo .rv32).addrNat 12 0) 16 := by decide +kernel

/-- The hypotheses of the statements about instructions that round. -/
theorem witness_rounding_instructions :
    (demo .rv64).roundMode 0b000 = some .rne ∧ (demo .rv64).roundMode 0b100 = some .rmm ∧
    ({ demo .rv64 with frm := 0b011 } : State).roundMode 0b111 = some .rup ∧ (demo .rv64).cfg.extF = true ∧
    (demo .rv64).cfg.extD = true ∧ (demo .rv64).cfg.extQ = true ∧ (demo .rv64).xlen = 64 := by decide +kernel

theorem witness_FloatArithmeticCompletes :
    (demo .rv32).roundMode 0b001 = some .rtz ∧ (demo .rv32).cfg.extF = true ∧ (demo .rv32).cfg.extD = true ∧
    (demo .rv32).cfg.extQ = true := by decide +kernel

theorem witness_SquareRootAndFormatConversionComplete :
    (demo .rv32).roundMode 0b010 = some .rdn ∧ (demo .rv32).cfg.extF = true ∧ (demo .rv32).cfg.extD = true ∧
    (demo .rv32).cfg.extQ = true := by decide +kernel

theorem witness_FloatToIntegerCompletes : (demo .rv64).roundMode 0b111 = some .rne ∧ (demo .rv64).cfg.extQ = true ∧
    (demo .rv64).xlen = 64 := by decide +kernel

theorem witness_IntegerToFloatCompletes : (demo .rv64).roundMode 0b100 = some .rmm ∧ (demo .rv64).cfg.extQ = true ∧
    (demo .rv64).xlen = 64 := by decide +kernel

theorem witness_SignInjectionResults :
    (demo .rv64).cfg.extF = true ∧ (demo .rv64).cfg.extD = true ∧ (demo .rv64).cfg.extQ = true := by decide +kernel

theorem witness_MinMaxCompletes_no_draw :
    (demo .rv64).cfg.extF = true ∧ ((demo .rv64).cfg.fminmax2008 &&
      Fmt.oppositeZeros .s ((demo .rv64).readF .s 3) ((demo .rv64).readF .s 4)) = false := by decide +kernel

/-- Under `FMINMAX_2008`, `f3` holds -0 and `f4` +0 as boxed singles. -/
theorem witness_MinMaxCompletes_draw :
    ({ demo .rv64 with cfg := { testConfig .rv64 128 with fminmax2008 := true } } : State).cfg.extF = true ∧
    (({ demo .rv64 with cfg := { testConfig .rv64 128 with fminmax2008 := true } } : State).cfg.fminmax2008 &&
      Fmt.oppositeZeros .s
        (({ demo .rv64 with cfg := { testConfig .rv64 128 with fminmax2008 := true } } : State).readF .s 3)
        (({ demo .rv64 with cfg := { testConfig .rv64 128 with fminmax2008 := true } } : State).readF .s 4)) = true := by
  decide +kernel

/-- Two numbers in either order, the zeros, a quiet and a signaling NaN. -/
theorem witness_MinMaxCompletes_operands :
    (Fmt.datum .s 0x3f800000).isNaN = false ∧ (Fmt.datum .s 0xff800000).isNaN = false ∧
    ¬ (Fmt.isZero .s 0x3f800000 = true ∧ Fmt.isZero .s 0xff800000 = true) ∧
    (Fmt.datum .s 0xff800000).place ≤ (Fmt.datum .s 0x3f800000).place ∧
    Fmt.isZero .s 0 = true ∧ Fmt.isZero .s 0x80000000 = true ∧ Fmt.sign .s 0 ≠ Fmt.sign .s 0x80000000 ∧
    (Fmt.datum .s 0x7fc00000).isNaN = true ∧ (Fmt.datum .s 0x7fc00000).isSignaling = false ∧
    (Fmt.datum .s 0x7f800001).isNaN = true ∧ (Fmt.datum .s 0x7f800001).isSignaling = true := by decide +kernel

theorem witness_FloatComparisonCompletes : (demo .rv32).cfg.extF = true ∧ (demo .rv32).cfg.extQ = true := by decide +kernel

theorem witness_RegisterMoveResults :
    (demo .rv64).cfg.extF = true ∧ (demo .rv64).cfg.extD = true ∧ (demo .rv64).xlen = 64 := by decide +kernel

theorem witness_ClassifyResults : (demo .rv64).cfg.extF = true ∧ (demo .rv64).cfg.extQ = true := by decide +kernel

theorem witness_ReservedModesAndAbsentRowsAreIllegal :
    (testConfig .rv64 64).has (Instr.faddQ 1 2 3 0).tableOf = false ∧ (Instr.fmvXQ 1 2).tableOf = .rv128q ∧
    (Instr.faddS 1 2 3 0b101).rmOf = some 0b101 ∧ (Instr.fcvtDS 1 2 0b110).rmOf = some 0b110 ∧
    (Instr.fmaddQ 1 2 3 4 0b111).rmOf = some 0b111 ∧ 5 ≤ ({ demo .rv64 with frm := 5 } : State).frm.toNat := by
  decide +kernel

/-- A next state of an instruction that writes an integer register only. -/
theorem witness_OnlyDestinationsChangeRegisters :
    (∃ t, exec (.addi 5 6 1) (demo .rv64) = .next t) ∧ (Instr.addi 5 6 1).xDest ≠ some 6 ∧
    (Instr.addi 5 6 1).fDest ≠ some 5 := ⟨exists_next (by decide +kernel), by decide, by decide⟩

theorem witness_OnlyStoresChangeMemory :
    (∃ t, exec (.sw 10 6 8) (demo .rv64) = .next t) ∧ (Instr.sw 10 6 8).storesTo (demo .rv64) = some (0x2008, 4) ∧
    (∀ k < 4, 0x200c ≠ (0x2008 + k) % 2 ^ (demo .rv64).xlen) ∧ (Instr.add 1 2 3).storesTo (demo .rv64) = none :=
  ⟨exists_next (by decide +kernel), by decide +kernel, by decide +kernel, rfl⟩

theorem witness_ChangedBytesAreRemembered :
    (∃ t, exec (.sw 10 6 8) { demo .rv64 with dirty := [0x2000] } = .next t) ∧
    ((match exec (.sw 10 6 8) (demo .rv64) with
      | .next t => decide (Memory.read t.mem 0x200b ≠ Memory.read (demo .rv64).mem 0x200b)
      | .fault _ => false
      | .refused _ => false) = true) ∧
    (∀ (imm : BitVec 12) (rs1 rd : RegNum), Instr.sw 10 6 8 ≠ .fenceI imm rs1 rd) ∧ 0x2000 ∈ { demo .rv64 with dirty := [0x2000] }.dirty :=
  ⟨exists_next (by decide +kernel), by decide +kernel, fun _ _ _ h => Instr.noConfusion h, by decide +kernel⟩

theorem witness_OnlyLrAndScChangeReservation :
    (Instr.sw 10 6 8).writesReservation = false ∧ ∃ t, exec (.sw 10 6 8) { demo .rv64 with lr := some 0x2008 } = .next t :=
  ⟨rfl, exists_next (by decide +kernel)⟩

theorem witness_OnlyCsrWritesClearFlags :
    (Instr.fdivS 1 1 4 0).isCsr = false ∧ ∃ t, exec (.fdivS 1 1 4 0) { demo .rv64 with fflags := 1 } = .next t :=
  ⟨rfl, exists_next (by decide +kernel)⟩

theorem witness_TrapsNameTheInstruction :
    trapOf (given .rv32 128 [] []) 0x02031293 = some (.illegalInstruction, 0x02031293) ∧
    exec .ecall (demo .rv64) = .fault (.trap .environmentCall 0x1000 0x1000) := ⟨by decide +kernel, rfl⟩

/-- `f1` holds a boxed single, `f2` one that is not boxed. -/
theorem witness_NaNBoxingRoundTrip :
    Fmt.width .s ≤ (demo .rv64).flen ∧ Fmt.width .q ≤ (demo .rv64).flen ∧
    (demo .rv64).fNat 2 < 2 ^ (demo .rv64).flen - 2 ^ Fmt.width .s ∧
    2 ^ (demo .rv64).flen - 2 ^ Fmt.width .s ≤ (demo .rv64).fNat 1 ∧
    2 ^ (demo .rv64).flen - 2 ^ Fmt.width .s ≤ (demo .rv64).fNat 4 := by decide +kernel

theorem witness_RoundingToUnits : 0 < 1 ∧ 2 * (5 % 2 ^ 1) = 2 ^ 1 ∧ 2 * (12 % 2 ^ 3) = 2 ^ 3 := by decide

/-- 1, the least subnormal, the largest finite number and -0. -/
theorem witness_RepresentableNumbersAreExact :
    Fmt.datum .s 0x3f800000 = .num false (2 ^ 23) (-23) ∧ Fmt.datum .s 1 = .num false 1 (-149) ∧
    Fmt.datum .s 0x7f7fffff = .num false (2 ^ 24 - 1) 104 ∧ Fmt.datum .s 0x80000000 = .num true 0 (-149) := by
  decide +kernel

theorem witness_NaNResultsAreCanonical :
    (Fmt.datum .s (Fmt.add .s .rne 0x7f800001 0x3f800000).bits).isNaN = true ∧
    (Fmt.datum .s (Fmt.mul .s .rne 0x7f800000 0).bits).isNaN = true ∧
    (Fmt.datum .s (Fmt.sqrt .s .rne 0xbf800000).bits).isNaN = true ∧
    (Fmt.datum .d (Fmt.convert .s .d .rne 0xffc00001).bits).isNaN = true ∧
    (Fmt.datum .s 0x7fc00001).isNaN = true ∧ (Fmt.datum .s 0xff800001).isNaN = true := by decide +kernel

/-- Both infinities, a zero, a nonzero number, a number below zero. -/
theorem witness_NaNResultsAreCanonical_invalid :
    Fmt.datum .s 0x7f800000 = .inf false ∧ Fmt.datum .s 0xff800000 = .inf (!false) ∧ Fmt.isZero .s 0x80000000 = true ∧
    (Fmt.datum .s 0xbf800000).isNaN = false ∧ Fmt.isZero .s 0xbf800000 = false ∧
    Fmt.datum .s 0x7f800000 = .inf (!(false ^^ Fmt.sign .s 0xbf800000)) ∧ (Fmt.datum .s 0xbf800000).isFinite = true ∧
    (Fmt.datum .s 0xbf800000).value < 0 := by decide +kernel

/-- 2 and 1 have the sum 3, the difference 1, the product 2, the quotient 2, and 2 * 1 + 1 is 3; 2 is a double too. -/
theorem witness_ExactResultsAreDelivered :
    (Fmt.datum .s 0x40000000).value = 2 ∧ (Fmt.datum .s 0x3f800000).value = 1 ∧ (Fmt.datum .s 0x40400000).value = 3 ∧
    (Fmt.datum .d 0x4000000000000000).value = 2 ∧ (Fmt.datum .s 0x40000000).isFinite = true ∧
    (Fmt.datum .s 0x3f800000).isFinite = true ∧ (Fmt.datum .s 0x40400000).isFinite = true ∧
    (Fmt.datum .d 0x4000000000000000).isFinite = true := by
  have h2 : Fmt.datum .s 0x40000000 = .num false (2 ^ 23) (-22) := by decide +kernel
  have h1 : Fmt.datum .s 0x3f800000 = .num false (2 ^ 23) (-23) := by decide +kernel
  have h3 : Fmt.datum .s 0x40400000 = .num false (3 * 2 ^ 22) (-22) := by decide +kernel
  have hd : Fmt.datum .d 0x4000000000000000 = .num false (2 ^ 52) (-51) := by decide +kernel
  rw [h1, h2, h3, hd]
  refine ⟨?_, ?_, ?_, ?_, rfl, rfl, rfl, rfl⟩ <;> norm_num [Datum.value, zpow_neg]

/-- Exact zeros: 1 - 1, 0 * 1 and 0 / 1; a nonzero number by zero; infinity with a number, a zero and itself. -/
theorem witness_ExactResultsAreDelivered_zeros_and_infinities :
    (Fmt.datum .s 0x3f800000).value + (Fmt.datum .s 0xbf800000).value = 0 ∧
    (Fmt.datum .s 0x3f800000).value - (Fmt.datum .s 0x3f800000).value = 0 ∧
    (Fmt.datum .s 0x80000000).value * (Fmt.datum .s 0x3f800000).value = 0 ∧ (Fmt.datum .s 0x80000000).value = 0 ∧
    (Fmt.datum .s 0x3f800000).value ≠ 0 ∧
    (Fmt.datum .s 0x3f800000).value * (Fmt.datum .s 0x3f800000).value + (Fmt.datum .s 0xbf800000).value = 0 ∧
    Fmt.datum .s 0xff800000 = .inf true ∧ Fmt.datum .s 0x7f800000 = .inf false ∧
    (Fmt.datum .s 0x7f800000).isNaN = false ∧ Fmt.isZero .s 0x7f800000 = false ∧
    Fmt.datum .s 0xff800000 = .inf (true ^^ Fmt.sign .s 0x7f800000) := by
  have h1 : (Fmt.datum .s 0x3f800000).value = 1 := by decide +kernel
  have hm : (Fmt.datum .s 0xbf800000).value = -1 := by decide +kernel
  have h0 : (Fmt.datum .s 0x80000000).value = 0 := by decide +kernel
  rw [h1, hm, h0]
  exact ⟨by norm_num, by norm_num, by norm_num, rfl, by norm_num, by norm_num, by decide +kernel, by decide +kernel,
    by decide +kernel, by decide +kernel, by decide +kernel⟩

/-- 4 and its root 2, and the integer 2. -/
theorem witness_ExactResultsAreDelivered_root :
    0 < (Fmt.datum .s 0x40000000).value ∧
    (Fmt.datum .s 0x40000000).value * (Fmt.datum .s 0x40000000).value = (Fmt.datum .s 0x40800000).value ∧
    ((2 : Int) : ℚ) = (Fmt.datum .s 0x40000000).value := by decide +kernel

theorem witness_RoundedResultsAreNearest : (3 : Nat) ≠ 0 := by decide

/-- 1 and 3, of which the sum, the product, the quotient and the root are not zero. -/
theorem witness_OperationsRoundTheExactResult :
    (Fmt.datum .s 0x3f800000).isFinite = true ∧ (Fmt.datum .s 0x40400000).isFinite = true ∧
    (Fmt.datum .s 0x3f800000).value = 1 ∧ (Fmt.datum .s 0x40400000).value = 3 ∧
    (1 : ℚ) + 3 ≠ 0 ∧ (1 : ℚ) - 3 ≠ 0 ∧ (1 : ℚ) * 3 ≠ 0 ∧ (0 : ℚ) < 3 ∧ (1 : ℚ) * 3 + 1 ≠ 0 ∧ (1 : ℚ) * 3 - 1 ≠ 0 ∧
    -((1 : ℚ) * 3) + 1 ≠ 0 ∧ -((1 : ℚ) * 3) - 1 ≠ 0 ∧ (7 : Int) ≠ 0 := by decide +kernel

theorem witness_ConversionToIntegerSaturates :
    (Fmt.datum .s 0x7fc00000).isNaN = true ∧ Fmt.datum .s 0x7f800000 = .inf false ∧ Fmt.datum .s 0xff800000 = .inf true ∧
    (Fmt.datum .s 0xbf000000).isFinite = true ∧ (Fmt.datum .s 0x4f000000).isFinite = true := by decide +kernel

/-- The conversion of 2.5, a tie. -/
theorem test_fcvt_tie :
    (Fmt.datum .s 0x40200000).value = 5 / 2 ∧ Fmt.toInt .s .rne .w 0x40200000 = ⟨2, .nx⟩ ∧
    Fmt.toInt .s .rmm .w 0x40200000 = ⟨3, .nx⟩ := by decide +kernel

theorem witness_ComparisonsOrderNumbers :
    (Fmt.datum .s 0x80000000).isFinite = true ∧ (Fmt.datum .s 0x3f800000).isFinite = true ∧
    (Fmt.datum .s 0x80000000).value < (Fmt.datum .s 0x3f800000).value ∧
    (Fmt.datum .s 0x80000000).value = (Fmt.datum .s 0).value ∧
    (Fmt.datum .s 0xff800000).isNaN = false ∧ (Fmt.datum .s 0xff800000).place < (Fmt.datum .s 0xff7fffff).place ∧
    (Fmt.datum .s 0x7f7fffff).place < (Fmt.datum .s 0x7f800000).place ∧
    (Fmt.datum .s 0x7fc00000).isNaN = true ∧ (Fmt.datum .s 0x7f800001).isSignaling = true := by decide +kernel

end Sys2Proof.Tests
end

section
/-! PROOFS. The words of instructions against the rows of the opcode table: a mask keeps some fields and clears the
others. -/

namespace Sys2Proof.Machine

/-- Masking a word masks each of its fields. -/
theorem fields_join_and (f g : Fields) :
    f.join &&& g.join = Fields.join ⟨f.f7 &&& g.f7, f.rs2 &&& g.rs2, f.rs1 &&& g.rs1, f.f3 &&& g.f3, f.rd &&& g.rd,
      f.op &&& g.op⟩ := by
  change (f.f7 ++ f.rs2 ++ f.rs1 ++ f.f3 ++ f.rd ++ f.op : BitVec (7 + 5 + 5 + 3 + 5 + 7)) &&&
    (g.f7 ++ g.rs2 ++ g.rs1 ++ g.f3 ++ g.rd ++ g.op) = _
  simp only [BitVec.and_append]
  rfl

section

/-! The match value of a row is zero outside its mask, and the word of the instruction has the fields of the match value
that the mask keeps. -/

variable {i : Instr} {m : Nat}

/-- The mask of the U and J formats keeps the opcode. -/
theorem row_of_opcode (hop : (fieldsOf i).op = (Fields.split (.ofNat 32 m)).op := by rfl)
    (hm : Fields.join ⟨0#7, 0#5, 0#5, 0#3, 0#5, (Fields.split (.ofNat 32 m)).op⟩ = .ofNat 32 m := by decide) :
    Row i m 0x7f := by
  have hmask : BitVec.ofNat 32 0x7f = Fields.join ⟨0#7, 0#5, 0#5, 0#3, 0#5, BitVec.allOnes 7⟩ := by decide
  rw [Row, encode, hmask, fields_join_and, hop]
  simpa only [BitVec.and_zero, BitVec.and_allOnes] using hm

/-- The mask of the I, S and B formats keeps the opcode and `funct3`. -/
theorem row_of_funct3 (h3 : (fieldsOf i).f3 = (Fields.split (.ofNat 32 m)).f3 := by rfl)
    (hop : (fieldsOf i).op = (Fields.split (.ofNat 32 m)).op := by rfl)
    (hm : Fields.join ⟨0#7, 0#5, 0#5, (Fields.split (.ofNat 32 m)).f3, 0#5, (Fields.split (.ofNat 32 m)).op⟩ =
      .ofNat 32 m := by decide) : Row i m 0x707f := by
  have hmask : BitVec.ofNat 32 0x707f = Fields.join ⟨0#7, 0#5, 0#5, BitVec.allOnes 3, 0#5, BitVec.allOnes 7⟩ := by
    decide
  rw [Row, encode, hmask, fields_join_and, h3, hop]
  simpa only [BitVec.and_zero, BitVec.and_allOnes] using hm

/-- The mask of the R format keeps the opcode, `funct3` and `funct7`. -/
theorem row_of_funct7 (h7 : (fieldsOf i).f7 = (Fields.split (.ofNat 32 m)).f7 := by rfl)
    (h3 : (fieldsOf i).f3 = (Fields.split (.ofNat 32 m)).f3 := by rfl)
    (hop : (fieldsOf i).op = (Fields.split (.ofNat 32 m)).op := by rfl)
    (hm : Fields.join ⟨(Fields.split (.ofNat 32 m)).f7, 0#5, 0#5, (Fields.split (.ofNat 32 m)).f3, 0#5,
      (Fields.split (.ofNat 32 m)).op⟩ = .ofNat 32 m := by decide) : Row i m 0xfe00707f := by
  have hmask : BitVec.ofNat 32 0xfe00707f =
      Fields.join ⟨BitVec.allOnes 7, 0#5, 0#5, BitVec.allOnes 3, 0#5, BitVec.allOnes 7⟩ := by decide
  rw [Row, encode, hmask, fields_join_and, h7, h3, hop]
  simpa only [BitVec.and_zero, BitVec.and_allOnes] using hm

/-- The mask of the immediate shifts keeps the opcode, `funct3` and the upper six bits of `funct7`, whose lowest bit
belongs to the shift amount. -/
theorem row_of_funct6 {low : BitVec 1} (h7 : (fieldsOf i).f7 = (Fields.split (.ofNat 32 m)).f6 ++ low)
    (h3 : (fieldsOf i).f3 = (Fields.split (.ofNat 32 m)).f3 := by rfl)
    (hop : (fieldsOf i).op = (Fields.split (.ofNat 32 m)).op := by rfl)
    (hm : Fields.join ⟨(Fields.split (.ofNat 32 m)).f6 ++ 0#1, 0#5, 0#5, (Fields.split (.ofNat 32 m)).f3, 0#5,
      (Fields.split (.ofNat 32 m)).op⟩ = .ofNat 32 m := by decide) : Row i m 0xfc00707f := by
  have hmask : BitVec.ofNat 32 0xfc00707f =
      Fields.join ⟨BitVec.allOnes 6 ++ 0#1, 0#5, 0#5, BitVec.allOnes 3, 0#5, BitVec.allOnes 7⟩ := by decide
  rw [Row, encode, hmask, fields_join_and, h7, h3, hop, BitVec.and_append]
  simpa only [BitVec.and_zero, BitVec.and_allOnes] using hm

end

/-- The I-immediate of an immediate shift: six fixed bits, then the shift amount, whose top bit is in `funct7`. -/
theorem shift_funct7 (f6 shamt : BitVec 6) :
    (f6 ++ shamt : BitVec 12).extractLsb' 5 7 = f6 ++ shamt.extractLsb' 5 1 := by
  apply BitVec.eq_of_getLsbD_eq
  intro k hk
  simp only [BitVec.getLsbD_extractLsb', BitVec.getLsbD_append]
  rcases k with _ | k
  · simp
  · have h1 : ¬ 5 + (k + 1) < 6 := by omega
    have h2 : ¬ k + 1 < 1 := by omega
    have h3 : 5 + (k + 1) - 6 = k := by omega
    simp [hk, h1, h2, h3]

end Sys2Proof.Machine
end

section
/-! PROOFS. Integer operations on registers, as arithmetic on the numbers the registers show. -/

namespace Sys2Proof.Machine

section

variable {n : Nat} (a b : BitVec n)

theorem toNat_eq_wrap_toInt : a.toNat = wrap n a.toInt := toNat_eq_wrap BitVec.ofInt_toInt.symm

theorem add_toNat_eq_wrap : (a + b).toNat = wrap n (a.toInt + b.toInt) :=
  toNat_eq_wrap (by rw [BitVec.ofInt_add, BitVec.ofInt_toInt, BitVec.ofInt_toInt])

theorem sub_toNat_eq_wrap : (a - b).toNat = wrap n (a.toInt - b.toInt) :=
  toNat_eq_wrap (BitVec.eq_of_toInt_eq (by rw [BitVec.toInt_sub, BitVec.toInt_ofInt]))

theorem shiftLeft_toNat (k : Nat) : (a <<< k).toNat = a.toNat * 2 ^ k % 2 ^ n := by
  rw [BitVec.toNat_shiftLeft, Nat.shiftLeft_eq]

theorem ushiftRight_toNat (k : Nat) : (a >>> k).toNat = a.toNat / 2 ^ k := by
  rw [BitVec.toNat_ushiftRight, Nat.shiftRight_eq_div_pow]

/-- An arithmetic right shift rounds the quotient toward minus infinity. -/
theorem sshiftRight_toNat (k : Nat) : (a.sshiftRight k).toNat = wrap n (a.toInt / 2 ^ k) := by
  rw [toNat_eq_wrap_toInt, BitVec.toInt_sshiftRight, Int.shiftRight_eq_div_pow]
  norm_cast

/-- Clearing bit 0 rounds down to an even number. -/
theorem clearBit0_toNat : (a &&& ~~~(1 : BitVec n)).toNat = a.toNat / 2 * 2 := by
  have hshift : a &&& ~~~(1 : BitVec n) = (a >>> 1) <<< 1 := by
    apply BitVec.eq_of_getLsbD_eq
    intro k hk
    rcases k with _ | k
    · simp [hk]
    · simp [hk, Nat.add_comm 1 k]
  rw [hshift, shiftLeft_toNat, ushiftRight_toNat, Nat.mod_eq_of_lt, pow_one]
  have := a.isLt
  omega

end

section

variable (s : State) (rs1 rs2 : RegNum) (imm : BitVec 12)

theorem State.xlen_ge : 32 ≤ s.xlen := by rcases s.xlen_cases with h | h <;> omega

theorem State.imm12_toNat : (s.imm12 imm).toNat = wrap s.xlen imm.toInt := signExtend_toNat imm

theorem State.imm12_toInt : (s.imm12 imm).toInt = imm.toInt :=
  signExtend_toInt imm (by have := s.xlen_ge; omega)

theorem State.immU_toNat (imm : BitVec 20) : (s.immU imm).toNat = wrap s.xlen (asSigned 32 (imm.toNat * 2 ^ 12)) := by
  rw [State.immU, signExtend_toNat, immU_toInt]

theorem State.auipc_toNat (imm : BitVec 20) :
    (s.getPc + s.immU imm).toNat = wrap s.xlen (s.pcNat + asSigned 32 (imm.toNat * 2 ^ 12)) := by
  rw [State.immU, add_signExtend_toNat, immU_toInt]; rfl

theorem State.getX_beq_iff : (s.getX rs1 == s.getX rs2) = true ↔ s.xNat rs1 = s.xNat rs2 := by
  rw [beq_iff_eq, ← BitVec.toNat_inj]; rfl

theorem State.getX_slt_iff : (s.getX rs1).slt (s.getX rs2) = true ↔ s.xInt rs1 < s.xInt rs2 := by
  rw [BitVec.slt_iff_toInt_lt, State.getX_toInt, State.getX_toInt]

theorem State.getX_ult_iff : (s.getX rs1).ult (s.getX rs2) = true ↔ s.xNat rs1 < s.xNat rs2 :=
  BitVec.ult_iff_toNat_lt

end

end Sys2Proof.Machine
end

section
/-! PROOFS. What each shared operation of the integer instructions ends in, in the terms of the claims. -/

namespace Sys2Proof.Machine

variable {s : State} {i : Instr} {rd rs1 rs2 : RegNum}

/-- A comparison in `x[rd]` completes the instruction. -/
theorem completesX_of_bool {c : Bool} {p : Prop} [Decidable p] (h : exec i s = writeBool rd c s) (hc : c = true ↔ p) :
    CompletesX i s rd (if p then 1 else 0) :=
  completesX_of_xlen h (by simp only [ofBool_setWidth_toNat c s.xlen_pos, hc])

/-- A branch on a test has the laws of a branch under the relation that the test decides. -/
theorem branchLaw_of_test {imm : BitVec 13} {taken : Bool} {cond : Prop} (h : exec i s = branch taken imm s)
    (hc : taken = true ↔ cond) : BranchLaw i s imm cond := branchLaw_of h hc (s.target_toNat imm)

/-- An immediate shift by less than `XLEN` goes on. -/
theorem withShamt_of_lt {shamt : BitVec 6} {k : Nat → Result} (h : shamt.toNat < s.xlen) :
    withShamt i shamt s k = k shamt.toNat := if_pos h

/-- An immediate shift by `XLEN` or more is illegal. -/
theorem illegal_of_shamt {shamt : BitVec 6} {k : Nat → Result} (h : exec i s = withShamt i shamt s k)
    (hs : s.xlen ≤ shamt.toNat) : Illegal i s :=
  illegal_of (h := h.trans (if_neg (by omega)))

section

variable {bytes : Nat} {imm : BitVec 12}

/-- A load past its checks, of known bytes, writes their extended value. -/
theorem load_known {signed : Bool} {b : Nat → Byte} (ha : s.addrNat rs1 imm % bytes = 0)
    (hp : s.allowed .load (s.addrNat rs1 imm) bytes) (hb : s.holds (s.addrNat rs1 imm) bytes b) :
    load bytes signed rd rs1 imm s =
      if signed then writeReg rd ((BitVec.ofNat (8 * bytes) (bytesNat b bytes)).signExtend s.xlen) s
      else writeReg rd ((BitVec.ofNat (8 * bytes) (bytesNat b bytes)).setWidth s.xlen) s := by
  rw [load, checked_passes ha hp, readBytes_known hb]

theorem ofNat_bytesNat_toNat (b : Nat → Byte) (bytes : Nat) :
    (BitVec.ofNat (8 * bytes) (bytesNat b bytes)).toNat = bytesNat b bytes := by
  rw [BitVec.toNat_ofNat, Nat.mod_eq_of_lt (bytesNat_lt b bytes)]

/-- A sign-extending load has the laws of a load. -/
theorem loadLaw_of_signed (h : exec i s = load bytes true rd rs1 imm s) :
    LoadLaw i s rd (s.addrNat rs1 imm) bytes fun v => wrap s.xlen (asSigned (8 * bytes) v) := by
  refine ⟨turnedAway_of h, fun b ha hp hb => completesX_of_xlen (h.trans (load_known ha hp hb)) ?_⟩
  rw [signExtend_toNat, ← asSigned_toNat, ofNat_bytesNat_toNat]

/-- A zero-extending load of no more than `XLEN` bits has the laws of a load. -/
theorem loadLaw_of_unsigned (h : exec i s = load bytes false rd rs1 imm s) (hw : 8 * bytes ≤ s.xlen) :
    LoadLaw i s rd (s.addrNat rs1 imm) bytes id := by
  refine ⟨turnedAway_of h, fun b ha hp hb => completesX_of_xlen (h.trans (load_known ha hp hb)) ?_⟩
  rw [BitVec.toNat_setWidth_of_le hw, ofNat_bytesNat_toNat, id]

/-- A store of the low bytes of a register has the laws of a store. -/
theorem storeLaw_of (h : exec i s = store bytes rs1 rs2 imm s) (hc : bytes ≤ 16) :
    StoreLaw i s (s.addrNat rs1 imm) bytes (s.xNat rs2) :=
  ⟨turnedAway_of h, fun ha hp => completesStore_of hc (h.trans (checked_passes ha hp))⟩

end

end Sys2Proof.Machine
end

section
/-! PROOFS. The laws of RV32I (spec/40_rv32i.md), with `ld` and `sd` of RV64I. -/

namespace Sys2Proof.Machine

/-- Settles O11: each result is the U-immediate, or its sum with `pc`, as a number. -/
theorem upperImmediateResults : Obligations.UpperImmediateResults := by
  intro s rd imm
  exact ⟨row_of_opcode, row_of_opcode, completesX_of_xlen rfl (s.immU_toNat imm),
    completesX_of_xlen rfl (s.auipc_toNat imm)⟩

/-- Settles O12: both are `jumpTo` with the link; what is left is each target as a number. -/
theorem jumpAndLinkLaws : Obligations.JumpAndLinkLaws := by
  intro s rd rs1
  refine ⟨fun imm => ⟨row_of_opcode, fun _ => ?_⟩, fun imm => ⟨row_of_funct3, ?_⟩⟩
  · rw [← State.target_toNat]
    exact jumpLaw_of rfl
  · have htarget : (s.effAddr rs1 imm &&& ~~~1).toNat = wrap s.xlen (s.xNat rs1 + imm.toInt) / 2 * 2 := by
      rw [clearBit0_toNat, ← State.addrNat_eq]; rfl
    rw [← htarget]
    exact jumpLaw_of rfl

/-- Settles O13: the six are `branch` on a test of the two registers, and each test is read as a relation of numbers. -/
theorem branchLaws : Obligations.BranchLaws := by
  intro s rs1 rs2 imm _
  have heq := s.getX_beq_iff rs1 rs2
  have hslt := s.getX_slt_iff rs1 rs2
  have hult := s.getX_ult_iff rs1 rs2
  refine ⟨row_of_funct3, row_of_funct3, row_of_funct3, row_of_funct3, row_of_funct3, row_of_funct3,
    branchLaw_of_test rfl heq, branchLaw_of_test rfl ?bne, branchLaw_of_test rfl hslt, branchLaw_of_test rfl ?bge,
    branchLaw_of_test rfl hult, branchLaw_of_test rfl ?bgeu⟩
  case bne => rw [bne, Bool.not_eq_true', ← Bool.not_eq_true, heq]
  case bge => rw [Bool.not_eq_true', ← Bool.not_eq_true, hslt, not_lt]
  case bgeu => rw [Bool.not_eq_true', ← Bool.not_eq_true, hult, not_lt]

/-- Settles O14: the seven are `load` of 1, 2, 4 or 8 bytes; `lwu` and `ld` need their rows. -/
theorem loadLaws : Obligations.LoadLaws := by
  intro s rd rs1 imm
  have hx := s.xlen_ge
  refine ⟨s.addrNat_eq rs1 imm, row_of_funct3, row_of_funct3, row_of_funct3, row_of_funct3, row_of_funct3,
    row_of_funct3, row_of_funct3, loadLaw_of_signed rfl, loadLaw_of_signed rfl, loadLaw_of_signed rfl,
    loadLaw_of_unsigned rfl (by omega), loadLaw_of_unsigned rfl (by omega), fun h64 => ?lwu, fun h64 => ?ld,
    fun h32 => ?lwuIllegal, fun h32 => ?ldIllegal⟩
  case lwu => exact loadLaw_of_unsigned (requires_has (s.is64_eq h64)) (by omega)
  case ld => exact loadLaw_of_unsigned (requires_has (s.is64_eq h64)) (by omega)
  case lwuIllegal => exact illegal_of_lacks rfl (s.is64_ne h32)
  case ldIllegal => exact illegal_of_lacks rfl (s.is64_ne h32)

/-- Settles O16: the four are `store` of 1, 2, 4 or 8 bytes; `sd` needs its row. -/
theorem storeLaws : Obligations.StoreLaws := by
  intro s rs1 rs2 imm
  refine ⟨s.addrNat_eq rs1 imm, row_of_funct3, row_of_funct3, row_of_funct3, row_of_funct3,
    storeLaw_of rfl (by omega), storeLaw_of rfl (by omega), storeLaw_of rfl (by omega),
    fun h64 => ?sd, fun h32 => ?sdIllegal⟩
  case sd => exact storeLaw_of (requires_has (s.is64_eq h64)) (by omega)
  case sdIllegal => exact illegal_of_lacks rfl (s.is64_ne h32)

/-- Settles O17: the sign-extended immediate is one number read as signed and one read as unsigned. -/
theorem immediateArithmeticResults : Obligations.ImmediateArithmeticResults := by
  intro s rd rs1 imm
  have hint := s.imm12_toInt imm
  have hnat := s.imm12_toNat imm
  refine ⟨row_of_funct3, row_of_funct3, row_of_funct3, row_of_funct3, row_of_funct3, row_of_funct3,
    completesX_of_xlen rfl ?addi, completesX_of_bool rfl ?slti, completesX_of_bool rfl ?sltiu,
    completesX_of_xlen rfl ?xori, completesX_of_xlen rfl ?ori, completesX_of_xlen rfl ?andi⟩
  case addi => rw [add_toNat_eq_wrap, hint, State.getX_toInt]
  case slti => rw [BitVec.slt_iff_toInt_lt, hint, State.getX_toInt]
  case sltiu => rw [BitVec.ult_iff_toNat_lt, hnat, State.getX_toNat]
  case xori => rw [BitVec.toNat_xor, hnat, State.getX_toNat]
  case ori => rw [BitVec.toNat_or, hnat, State.getX_toNat]
  case andi => rw [BitVec.toNat_and, hnat, State.getX_toNat]

section

/-! The immediate shifts, by the operation that a legal amount runs. -/

variable (s : State) (rd rs1 : RegNum) (shamt : BitVec 6)

theorem exec_slli : exec (.slli rd rs1 shamt) s =
    withShamt (.slli rd rs1 shamt) shamt s fun n => writeReg rd (s.getX rs1 <<< n) s := rfl

theorem exec_srli : exec (.srli rd rs1 shamt) s =
    withShamt (.srli rd rs1 shamt) shamt s fun n => writeReg rd (s.getX rs1 >>> n) s := rfl

theorem exec_srai : exec (.srai rd rs1 shamt) s =
    withShamt (.srai rd rs1 shamt) shamt s fun n => writeReg rd ((s.getX rs1).sshiftRight n) s := rfl

end

/-- Settles O18: below `XLEN` the three are shifts of the register, and from `XLEN` on the amount is illegal. -/
theorem immediateShiftResults : Obligations.ImmediateShiftResults := by
  intro s rd rs1 shamt
  have hslli := exec_slli s rd rs1 shamt
  have hsrli := exec_srli s rd rs1 shamt
  have hsrai := exec_srai s rd rs1 shamt
  refine ⟨row_of_funct6 (shift_funct7 _ shamt), row_of_funct6 (shift_funct7 _ shamt),
    row_of_funct6 (shift_funct7 _ shamt), fun hs => ?slli, fun hs => ?srli, fun hs => ?srai,
    illegal_of_shamt hslli, illegal_of_shamt hsrli, illegal_of_shamt hsrai⟩
  case slli => exact completesX_of_xlen (hslli.trans (withShamt_of_lt hs)) (shiftLeft_toNat _ _)
  case srli => exact completesX_of_xlen (hsrli.trans (withShamt_of_lt hs)) (ushiftRight_toNat _ _)
  case srai =>
    exact completesX_of_xlen (hsrai.trans (withShamt_of_lt hs)) (by rw [sshiftRight_toNat, State.getX_toInt])

/-- Settles O19: each result is one operation on two registers, read as numbers. -/
theorem registerArithmeticResults : Obligations.RegisterArithmeticResults := by
  intro s rd rs1 rs2
  refine ⟨row_of_funct7, row_of_funct7, row_of_funct7, row_of_funct7, row_of_funct7, row_of_funct7, row_of_funct7,
    row_of_funct7, row_of_funct7, row_of_funct7, completesX_of_xlen rfl ?add, completesX_of_xlen rfl ?sub,
    completesX_of_xlen rfl ?sll, completesX_of_bool rfl ?slt, completesX_of_bool rfl ?sltu,
    completesX_of_xlen rfl ?xor, completesX_of_xlen rfl ?srl, completesX_of_xlen rfl ?sra,
    completesX_of_xlen rfl ?or, completesX_of_xlen rfl ?and⟩
  case add => rw [add_toNat_eq_wrap, State.getX_toInt, State.getX_toInt]
  case sub => rw [sub_toNat_eq_wrap, State.getX_toInt, State.getX_toInt]
  case sll => exact shiftLeft_toNat _ _
  case slt => exact s.getX_slt_iff rs1 rs2
  case sltu => exact s.getX_ult_iff rs1 rs2
  case xor => exact BitVec.toNat_xor _ _
  case srl => exact ushiftRight_toNat _ _
  case sra => rw [sshiftRight_toNat, State.getX_toInt]; rfl
  case or => exact BitVec.toNat_or _ _
  case and => exact BitVec.toNat_and _ _

/-- Settles O20: `fence` only moves on, and `fence.i` does so from the state with nothing remembered as written. -/
theorem fenceLaws : Obligations.FenceLaws := by
  intro s fm pred succ imm rs1 rd
  exact ⟨row_of_funct3, row_of_funct3, completesPc_of_advance rfl, { s with dirty := [] }.advance, rfl, rfl,
    advance_pcNat_of rfl rfl, fun _ => rfl, State.xNat_congr rfl rfl, State.fNat_congr rfl rfl, ⟨rfl, rfl⟩,
    reservation_of_lr rfl rfl, ⟨rfl, rfl⟩⟩

end Sys2Proof.Machine
end

section
/-! PROOFS. The decoder on words that the mask of the R format fixes. -/

namespace Sys2Proof.Machine

variable {w m : InstrWord}

/-- A word under the mask of the R format has the opcode, `funct3` and `funct7` of the match value. -/
theorem split_of_funct7_mask (h : w &&& 0xfe00707f = m) :
    Fields.split w = ⟨(Fields.split m).f7, (Fields.split w).rs2, (Fields.split w).rs1, (Fields.split m).f3,
      (Fields.split w).rd, (Fields.split m).op⟩ := by
  have h7 : (0xfe00707f : InstrWord).extractLsb' 25 7 = BitVec.allOnes 7 := by decide
  have h3 : (0xfe00707f : InstrWord).extractLsb' 12 3 = BitVec.allOnes 3 := by decide
  have hop : (0xfe00707f : InstrWord).extractLsb' 0 7 = BitVec.allOnes 7 := by decide
  simp only [← h, Fields.split, BitVec.extractLsb'_and, h7, h3, hop, BitVec.and_allOnes]

/-- Such a word decodes as the fields of the match value say, whatever its register fields hold. -/
theorem decode_of_funct7_mask (h : w &&& 0xfe00707f = m) :
    decode w = decodeFields ⟨(Fields.split m).f7, (Fields.split w).rs2, (Fields.split w).rs1, (Fields.split m).f3,
      (Fields.split w).rd, (Fields.split m).op⟩ :=
  congrArg decodeFields (split_of_funct7_mask h)

end Sys2Proof.Machine
end

section
/-! PROOFS. The word operations of RV64I (spec/41_rv64i.md). -/

namespace Sys2Proof.Machine

/-- The immediate word shifts have no sixth bit of the amount: `inst[25]` = 1 is a reserved encoding (rule R105). -/
theorem decode_wordShift_of_bit25 {w : InstrWord}
    (h : w &&& 0xfe00707f = 0x0200101b ∨ w &&& 0xfe00707f = 0x0200501b ∨ w &&& 0xfe00707f = 0x4200501b) :
    decode w = .error .reservedFunction := by
  rcases h with hslliw | hsrliw | hsraiw
  · exact decode_of_funct7_mask hslliw
  · exact decode_of_funct7_mask hsrliw
  · exact decode_of_funct7_mask hsraiw

/-- A word operation whose row is available writes its 32-bit result sign-extended. -/
theorem completesX_of_word {s : State} {i : Instr} {rd : RegNum} {tab : InstrTable} {v : BitVec 32} {m : Nat}
    (h : exec i s = requires tab i s (writeWord rd v s)) (htab : s.cfg.has tab = true) (hm : v.toNat = m) :
    CompletesX i s rd (wrap s.xlen (asSigned 32 m)) :=
  completesX_of_xlen (h.trans (requires_has htab)) (by rw [signExtend_toNat, ← asSigned_toNat, hm])

section

/-! The 32-bit results, as arithmetic on the low words of the registers. The shifts serve the immediate and the register
forms: the amount is any number. -/

variable (s : State) (rs1 rs2 : RegNum)

theorem State.addiw_toNat (imm : BitVec 12) :
    (s.getW rs1 + imm.signExtend 32).toNat = wrap 32 (s.wInt rs1 + imm.toInt) := by
  rw [add_toNat_eq_wrap, signExtend_toInt imm (by omega), State.getW_toInt]

theorem State.addw_toNat : (s.getW rs1 + s.getW rs2).toNat = wrap 32 (s.wInt rs1 + s.wInt rs2) := by
  rw [add_toNat_eq_wrap, State.getW_toInt, State.getW_toInt]

theorem State.subw_toNat : (s.getW rs1 - s.getW rs2).toNat = wrap 32 (s.wInt rs1 - s.wInt rs2) := by
  rw [sub_toNat_eq_wrap, State.getW_toInt, State.getW_toInt]

theorem State.getW_shiftLeft_toNat (k : Nat) : (s.getW rs1 <<< k).toNat = s.wNat rs1 * 2 ^ k % 2 ^ 32 := by
  rw [shiftLeft_toNat, State.getW_toNat]

theorem State.getW_ushiftRight_toNat (k : Nat) : (s.getW rs1 >>> k).toNat = s.wNat rs1 / 2 ^ k % 2 ^ 32 := by
  rw [← State.getW_toNat, ← ushiftRight_toNat, Nat.mod_eq_of_lt (BitVec.isLt _)]

theorem State.getW_sshiftRight_toNat (k : Nat) :
    ((s.getW rs1).sshiftRight k).toNat = wrap 32 (s.wInt rs1 / 2 ^ k) := by
  rw [sshiftRight_toNat, State.getW_toInt]

end

/-- Settles O21: each is one operation on the low words, written sign-extended, behind the check of RV64I. -/
theorem wordOperationResults : Obligations.WordOperationResults := by
  intro s rd rs1 rs2 imm shamt
  refine ⟨row_of_funct3, row_of_funct7, row_of_funct7, row_of_funct7, row_of_funct7, row_of_funct7, row_of_funct7,
    row_of_funct7, row_of_funct7, fun h64 => ?completes, fun h32 => ?illegal, fun w i h => ?reserved⟩
  case completes =>
    have htab : s.cfg.has .rv64i = true := s.has_rv64i.mpr h64
    exact ⟨completesX_of_word rfl htab (s.addiw_toNat rs1 imm),
      completesX_of_word rfl htab (s.getW_shiftLeft_toNat rs1 shamt.toNat),
      completesX_of_word rfl htab (s.getW_ushiftRight_toNat rs1 shamt.toNat),
      completesX_of_word rfl htab (s.getW_sshiftRight_toNat rs1 shamt.toNat),
      completesX_of_word rfl htab (s.addw_toNat rs1 rs2),
      completesX_of_word rfl htab (s.subw_toNat rs1 rs2),
      completesX_of_word rfl htab (s.getW_shiftLeft_toNat rs1 (s.xNat rs2 % 32)),
      completesX_of_word rfl htab (s.getW_ushiftRight_toNat rs1 (s.xNat rs2 % 32)),
      completesX_of_word rfl htab (s.getW_sshiftRight_toNat rs1 (s.xNat rs2 % 32))⟩
  case illegal =>
    have htab : s.cfg.has .rv64i = false := s.is64_ne h32
    exact ⟨illegal_of_lacks rfl htab, illegal_of_lacks rfl htab, illegal_of_lacks rfl htab, illegal_of_lacks rfl htab,
      illegal_of_lacks rfl htab, illegal_of_lacks rfl htab, illegal_of_lacks rfl htab, illegal_of_lacks rfl htab,
      illegal_of_lacks rfl htab⟩
  case reserved => rw [decode_wordShift_of_bit25 h]; exact nofun

end Sys2Proof.Machine
end

section
/-! PROOFS. Multiplication and division of patterns of `n` bits (spec/42_rv32m_rv64m.md R210), as arithmetic on numbers. -/

namespace Sys2Proof.Machine

section

variable {n : Nat} (a b : BitVec n)

theorem eq_zero_iff_toNat : b = 0 ↔ b.toNat = 0 := by
  rw [← BitVec.toNat_inj, BitVec.ofNat_eq_ofNat, BitVec.toNat_zero]

theorem mul_toNat_eq_wrap : (a * b).toNat = wrap n (a.toNat * b.toNat) := by
  rw [BitVec.toNat_mul, ← wrap_natCast, Nat.cast_mul]

theorem highHalf_toNat (p : Int) : (highHalf p : BitVec n).toNat = wrap n (p / 2 ^ n) := ofInt_toNat n _

/-- The product of two patterns of `n` bits has no more than `2n` bits, so the high half of it is exact. -/
theorem highHalf_mul_toNat : (highHalf (a.toNat * b.toNat) : BitVec n).toNat = a.toNat * b.toNat / 2 ^ n := by
  have hlt : a.toNat * b.toNat / 2 ^ n < 2 ^ n :=
    Nat.div_lt_of_lt_mul (Nat.mul_lt_mul'' a.isLt b.isLt)
  rw [highHalf_toNat, ← Nat.mod_eq_of_lt hlt, ← wrap_natCast]
  norm_cast

/-- `2^(n-1)`, the one quotient that is out of range, is stored as the pattern of `-2^(n-1)`. -/
theorem wrap_signedOverflow (hn : 0 < n) : wrap n (2 ^ (n - 1)) = wrap n (-2 ^ (n - 1)) := by
  have hsub : (-2 ^ (n - 1) : Int) = 2 ^ (n - 1) - 2 ^ n := by
    rw [← pow_sub_one_mul (by omega : n ≠ 0) (2 : Int)]
    ring
  rw [wrap, wrap, hsub, Int.sub_emod_right]

theorem divSigned_toNat (hn : 0 < n) : (divSigned a b).toNat =
    if b.toNat = 0 then 2 ^ n - 1
    else if a.toInt = -2 ^ (n - 1) ∧ b.toInt = -1 then a.toNat
    else wrap n (a.toInt.tdiv b.toInt) := by
  unfold divSigned
  simp only [eq_zero_iff_toNat]
  split_ifs with hzero hover
  · exact BitVec.toNat_allOnes
  · obtain ⟨hmin, hneg⟩ := hover
    rw [ofInt_toNat, toNat_eq_wrap_toInt a, hmin, hneg, Int.neg_tdiv_neg, Int.tdiv_one, wrap_signedOverflow hn]
  · exact ofInt_toNat n _

theorem divUnsigned_toNat : (divUnsigned a b).toNat = if b.toNat = 0 then 2 ^ n - 1 else a.toNat / b.toNat := by
  unfold divUnsigned
  simp only [eq_zero_iff_toNat]
  split_ifs with hzero
  · exact BitVec.toNat_allOnes
  · rw [BitVec.toNat_ofNat, Nat.mod_eq_of_lt ((Nat.div_le_self _ _).trans_lt a.isLt)]

/-- Division by `-1` leaves no remainder, so the overflow needs no case of its own in the model. -/
theorem remSigned_toNat : (remSigned a b).toNat =
    if b.toNat = 0 then a.toNat
    else if a.toInt = -2 ^ (n - 1) ∧ b.toInt = -1 then 0
    else wrap n (a.toInt - b.toInt * a.toInt.tdiv b.toInt) := by
  unfold remSigned
  simp only [eq_zero_iff_toNat]
  split_ifs with hzero hover
  · rfl
  · obtain ⟨-, hneg⟩ := hover
    rw [ofInt_toNat, hneg, Int.tmod_neg, Int.tmod_one]
    simp [wrap]
  · rw [ofInt_toNat, Int.tmod_def]

theorem remUnsigned_toNat : (remUnsigned a b).toNat = if b.toNat = 0 then a.toNat else a.toNat % b.toNat := by
  unfold remUnsigned
  simp only [eq_zero_iff_toNat]
  split_ifs with hzero
  · rfl
  · rw [BitVec.toNat_ofNat, Nat.mod_eq_of_lt ((Nat.mod_le _ _).trans_lt a.isLt)]

end

end Sys2Proof.Machine
end

section
/-! PROOFS. The laws of RV32M and RV64M (spec/42_rv32m_rv64m.md). -/

namespace Sys2Proof.Machine

theorem State.has_rv64m (s : State) : s.cfg.has .rv64m = true ↔ s.cfg.extM = true ∧ s.xlen = 64 := by
  rw [Config.has, Bool.and_eq_true, ← s.has_rv64i]; rfl

section

/-! The 32-bit results, as arithmetic on the low words of the registers. -/

variable (s : State) (rs1 rs2 : RegNum)

theorem State.mulw_toNat : (s.getW rs1 * s.getW rs2).toNat = s.wNat rs1 * s.wNat rs2 % 2 ^ 32 := by
  rw [BitVec.toNat_mul, State.getW_toNat, State.getW_toNat]

theorem State.divw_toNat : (divSigned (s.getW rs1) (s.getW rs2)).toNat =
    if s.wNat rs2 = 0 then 2 ^ 32 - 1
    else if s.wInt rs1 = -2 ^ 31 ∧ s.wInt rs2 = -1 then s.wNat rs1
    else wrap 32 ((s.wInt rs1).tdiv (s.wInt rs2)) := by
  simp only [divSigned_toNat _ _ (by decide : 0 < 32), State.getW_toNat, State.getW_toInt, Nat.reduceSub]

theorem State.divuw_toNat : (divUnsigned (s.getW rs1) (s.getW rs2)).toNat =
    if s.wNat rs2 = 0 then 2 ^ 32 - 1 else s.wNat rs1 / s.wNat rs2 := by
  rw [divUnsigned_toNat, State.getW_toNat, State.getW_toNat]

theorem State.remw_toNat : (remSigned (s.getW rs1) (s.getW rs2)).toNat =
    if s.wNat rs2 = 0 then s.wNat rs1
    else if s.wInt rs1 = -2 ^ 31 ∧ s.wInt rs2 = -1 then 0
    else wrap 32 (s.wInt rs1 - s.wInt rs2 * (s.wInt rs1).tdiv (s.wInt rs2)) := by
  simp only [remSigned_toNat, State.getW_toNat, State.getW_toInt, Nat.reduceSub]

theorem State.remuw_toNat : (remUnsigned (s.getW rs1) (s.getW rs2)).toNat =
    if s.wNat rs2 = 0 then s.wNat rs1 else s.wNat rs1 % s.wNat rs2 := by
  rw [remUnsigned_toNat, State.getW_toNat, State.getW_toNat]

theorem State.wNat_lt : s.wNat rs1 < 2 ^ 32 := Nat.mod_lt _ (by decide)

end

/-- All ones stays all ones under sign extension. -/
theorem wrap_asSigned_allOnes {n : Nat} (hn : 0 < n) : wrap n (asSigned 32 (2 ^ 32 - 1)) = 2 ^ n - 1 := by
  have hneg : asSigned 32 (2 ^ 32 - 1) = (BitVec.allOnes n).toInt := by
    rw [BitVec.toInt_allOnes, if_pos hn]; rfl
  rw [hneg, ← toNat_eq_wrap_toInt, BitVec.toNat_allOnes]

/-- A word operation of RV64M, whose result `m` stands for `k` after sign extension. -/
theorem completesX_of_rv64m {s : State} {i : Instr} {rd : RegNum} {v : BitVec 32} {m k : Nat}
    (h : exec i s = requires .rv64m i s (writeWord rd v s)) (hM : s.cfg.extM = true) (h64 : s.xlen = 64)
    (hm : v.toNat = m) (hk : wrap s.xlen (asSigned 32 m) = k) : CompletesX i s rd k :=
  hk ▸ completesX_of_word h (s.has_rv64m.mpr ⟨hM, h64⟩) hm

/-- Settles O22: each is one product, kept modulo `2^XLEN` or divided by it, behind the check of its table. -/
theorem multiplyResults : Obligations.MultiplyResults := by
  intro s rd rs1 rs2 hM
  have h32 : s.cfg.has .rv32m = true := hM
  refine ⟨row_of_funct7, row_of_funct7, row_of_funct7, row_of_funct7, row_of_funct7,
    completesX_of_xlen (requires_has h32) ?mul, completesX_of_xlen (requires_has h32) ?mulh,
    completesX_of_xlen (requires_has h32) ?mulhsu, completesX_of_xlen (requires_has h32) ?mulhu, fun h64 => ?mulw⟩
  case mul => exact mul_toNat_eq_wrap _ _
  case mulh => rw [highHalf_toNat, State.getX_toInt, State.getX_toInt]
  case mulhsu => rw [highHalf_toNat, State.getX_toInt, State.getX_toNat]
  case mulhu => exact highHalf_mul_toNat _ _
  case mulw => exact completesX_of_rv64m rfl hM h64 (s.mulw_toNat rs1 rs2) rfl

/-- Settles O23: each is one of the four divisions of patterns, on the registers or on their low words; a word result
is sign-extended case by case. -/
theorem divideResults : Obligations.DivideResults := by
  intro s rd rs1 rs2 hM
  have h32 : s.cfg.has .rv32m = true := hM
  refine ⟨row_of_funct7, row_of_funct7, row_of_funct7, row_of_funct7, row_of_funct7, row_of_funct7, row_of_funct7,
    row_of_funct7, completesX_of_xlen (requires_has h32) ?div, completesX_of_xlen (requires_has h32) ?divu,
    completesX_of_xlen (requires_has h32) ?rem, completesX_of_xlen (requires_has h32) ?remu,
    fun h64 => ?divw, fun h64 => ?divuw, fun h64 => ?remw, fun h64 => ?remuw⟩
  case div => simp only [divSigned_toNat _ _ s.xlen_pos, State.getX_toNat, State.getX_toInt]
  case divu => exact divUnsigned_toNat _ _
  case rem => simp only [remSigned_toNat, State.getX_toNat, State.getX_toInt]
  case remu => exact remUnsigned_toNat _ _
  case divw =>
    refine completesX_of_rv64m rfl hM h64 (s.divw_toNat rs1 rs2) ?_
    split_ifs with hzero hover
    · exact wrap_asSigned_allOnes s.xlen_pos
    · obtain ⟨hmin, -⟩ := hover
      rw [← hmin, State.wInt]
    · rfl
  case divuw =>
    refine completesX_of_rv64m rfl hM h64 (s.divuw_toNat rs1 rs2) ?_
    split_ifs with hzero
    · exact wrap_asSigned_allOnes s.xlen_pos
    · rw [Nat.mod_eq_of_lt ((Nat.div_le_self _ _).trans_lt (s.wNat_lt rs1))]
  case remw =>
    refine completesX_of_rv64m rfl hM h64 (s.remw_toNat rs1 rs2) ?_
    split_ifs with hzero hover
    · rfl
    · simp [wrap, asSigned]
    · rfl
  case remuw =>
    refine completesX_of_rv64m rfl hM h64 (s.remuw_toNat rs1 rs2) ?_
    split_ifs with hzero
    · rfl
    · rw [Nat.mod_eq_of_lt ((Nat.mod_le _ _).trans_lt (s.wNat_lt rs1))]

end Sys2Proof.Machine
end

section
/-! PROOFS. The words of the A instructions, whose `funct7` holds `funct5` above `aq` and `rl`. -/

namespace Sys2Proof.Machine

section

variable {i : Instr} {m : Nat} {aq rl : Bool}

/-- A mask of the opcode, `funct3` and `funct5` clears `aq`, `rl` and the register fields, but for the part of `rs2`
that it keeps. -/
theorem encode_and_funct5_mask {keep : BitVec 5}
    (h7 : (fieldsOf i).f7 = (Fields.split (.ofNat 32 m)).f5 ++ BitVec.ofBool aq ++ BitVec.ofBool rl)
    (h3 : (fieldsOf i).f3 = (Fields.split (.ofNat 32 m)).f3) (hop : (fieldsOf i).op = (Fields.split (.ofNat 32 m)).op) :
    encode i &&& Fields.join ⟨BitVec.allOnes 5 ++ 0#1 ++ 0#1, keep, 0#5, BitVec.allOnes 3, 0#5, BitVec.allOnes 7⟩ =
      Fields.join ⟨(Fields.split (.ofNat 32 m)).f5 ++ 0#1 ++ 0#1, (fieldsOf i).rs2 &&& keep, 0#5,
        (Fields.split (.ofNat 32 m)).f3, 0#5, (Fields.split (.ofNat 32 m)).op⟩ := by
  rw [encode, fields_join_and, h7, h3, hop, BitVec.and_append, BitVec.and_append]
  simp only [BitVec.and_zero, BitVec.and_allOnes]

/-- The mask of `sc` and the AMOs keeps the opcode, `funct3` and `funct5`. -/
theorem row_of_funct5
    (h7 : (fieldsOf i).f7 = (Fields.split (.ofNat 32 m)).f5 ++ BitVec.ofBool aq ++ BitVec.ofBool rl)
    (h3 : (fieldsOf i).f3 = (Fields.split (.ofNat 32 m)).f3 := by rfl)
    (hop : (fieldsOf i).op = (Fields.split (.ofNat 32 m)).op := by rfl)
    (hm : Fields.join ⟨(Fields.split (.ofNat 32 m)).f5 ++ 0#1 ++ 0#1, 0#5, 0#5, (Fields.split (.ofNat 32 m)).f3, 0#5,
      (Fields.split (.ofNat 32 m)).op⟩ = .ofNat 32 m := by decide) : Row i m 0xf800707f := by
  have hmask : BitVec.ofNat 32 0xf800707f =
      Fields.join ⟨BitVec.allOnes 5 ++ 0#1 ++ 0#1, 0#5, 0#5, BitVec.allOnes 3, 0#5, BitVec.allOnes 7⟩ := by decide
  rw [Row, hmask, encode_and_funct5_mask h7 h3 hop, BitVec.and_zero, hm]

/-- The mask of `lr` keeps the `rs2` field too. -/
theorem row_of_funct5_rs2
    (h7 : (fieldsOf i).f7 = (Fields.split (.ofNat 32 m)).f5 ++ BitVec.ofBool aq ++ BitVec.ofBool rl)
    (h2 : (fieldsOf i).rs2 = (Fields.split (.ofNat 32 m)).rs2 := by rfl)
    (h3 : (fieldsOf i).f3 = (Fields.split (.ofNat 32 m)).f3 := by rfl)
    (hop : (fieldsOf i).op = (Fields.split (.ofNat 32 m)).op := by rfl)
    (hm : Fields.join ⟨(Fields.split (.ofNat 32 m)).f5 ++ 0#1 ++ 0#1, (Fields.split (.ofNat 32 m)).rs2, 0#5,
      (Fields.split (.ofNat 32 m)).f3, 0#5, (Fields.split (.ofNat 32 m)).op⟩ = .ofNat 32 m := by decide) :
    Row i m 0xf9f0707f := by
  have hmask : BitVec.ofNat 32 0xf9f0707f = Fields.join ⟨BitVec.allOnes 5 ++ 0#1 ++ 0#1, BitVec.allOnes 5, 0#5,
      BitVec.allOnes 3, 0#5, BitVec.allOnes 7⟩ := by decide
  rw [Row, hmask, encode_and_funct5_mask h7 h3 hop, BitVec.and_allOnes, h2, hm]

end

section

variable {w m : InstrWord}

/-- A word under the mask of `sc` and the AMOs has the opcode, `funct3` and `funct5` of the match value. -/
theorem fields_of_funct5_mask (h : w &&& 0xf800707f = m) :
    (Fields.split w).f5 = (Fields.split m).f5 ∧ (Fields.split w).f3 = (Fields.split m).f3 ∧
      (Fields.split w).op = (Fields.split m).op := by
  have h5 : ((0xf800707f : InstrWord).extractLsb' 25 7).extractLsb' 2 5 = BitVec.allOnes 5 := by decide
  have h3 : (0xf800707f : InstrWord).extractLsb' 12 3 = BitVec.allOnes 3 := by decide
  have hop : (0xf800707f : InstrWord).extractLsb' 0 7 = BitVec.allOnes 7 := by decide
  simp only [← h, Fields.split, Fields.f5, BitVec.extractLsb'_and, h5, h3, hop, BitVec.and_allOnes, and_self]

/-- Masking a word with its `rs2` bits leaves that field in its place. -/
theorem and_rs2_mask : w &&& (0x01f00000 : InstrWord) = (Fields.split w).rs2.setWidth 32 <<< 20 := by
  have hmask : (0x01f00000 : InstrWord) = (BitVec.allOnes 5).setWidth 32 <<< 20 := by decide
  apply BitVec.eq_of_getLsbD_eq
  intro k hk
  rw [hmask]
  simp only [Fields.split, BitVec.getLsbD_and, BitVec.getLsbD_shiftLeft, BitVec.getLsbD_setWidth,
    BitVec.getLsbD_extractLsb', BitVec.getLsbD_allOnes]
  by_cases hlow : k < 20
  · simp [hlow]
  · rw [show 20 + (k - 20) = k by omega]
    grind

theorem rs2_ne_zero_of_mask (h : w &&& 0x01f00000 ≠ 0) : (Fields.split w).rs2 ≠ 0 := by
  intro hrs2
  rw [and_rs2_mask, hrs2] at h
  exact h (by decide)

end

/-- `lr` needs its `rs2` field zero (rule R125). -/
theorem decodeAmo_lr_of_rs2 {f : Fields} (h5 : f.f5 = 0b00010#5) (h3 : f.f3 = 0b010#3 ∨ f.f3 = 0b011#3)
    (h2 : f.rs2 ≠ 0) : decodeAmo f = .error .reservedFunction := by
  unfold decodeAmo
  rcases h3 with h3 | h3 <;> rw [h5, h3] <;> exact if_neg h2

/-- A word of `lr` but for a nonzero `rs2` field is no instruction. -/
theorem decode_lr_of_rs2 {w : InstrWord} (h : w &&& 0xf800707f = 0x1000202f ∨ w &&& 0xf800707f = 0x1000302f)
    (hrs2 : w &&& 0x01f00000 ≠ 0) : decode w = .error .reservedFunction := by
  obtain ⟨h5, h3, hop⟩ : (Fields.split w).f5 = 0b00010#5 ∧
      ((Fields.split w).f3 = 0b010#3 ∨ (Fields.split w).f3 = 0b011#3) ∧ (Fields.split w).op = 0b0101111#7 := by
    rcases h with hw | hd
    · obtain ⟨h5, h3, hop⟩ := fields_of_funct5_mask hw
      exact ⟨h5, .inl h3, hop⟩
    · obtain ⟨h5, h3, hop⟩ := fields_of_funct5_mask hd
      exact ⟨h5, .inr h3, hop⟩
  have hamo : decode w = decodeAmo (Fields.split w) := by
    rw [decode, decodeFields, hop]; rfl
  rw [hamo, decodeAmo_lr_of_rs2 h5 h3 (rs2_ne_zero_of_mask hrs2)]

end Sys2Proof.Machine
end

section
/-! PROOFS. The updates that an atomic instruction makes before it writes `x[rd]`: memory, the reservation and the
draws. -/

namespace Sys2Proof.Machine

/-- The two states agree on the parameters and on every register; memory, the reservation and the draws may differ. -/
structure SameRegisters (s u : State) : Prop where
  cfg : u.cfg = s.cfg
  x : u.x = s.x
  pc : u.pc = s.pc
  f : u.f = s.f
  frm : u.frm = s.frm
  fflags : u.fflags = s.fflags

section

variable {s u : State}

theorem SameRegisters.refl (s : State) : SameRegisters s s := ⟨rfl, rfl, rfl, rfl, rfl, rfl⟩

theorem SameRegisters.drawn (h : SameRegisters s u) : SameRegisters s u.drawn :=
  ⟨h.cfg, h.x, h.pc, h.f, h.frm, h.fflags⟩

theorem SameRegisters.reserve (h : SameRegisters s u) {n : Nat} (a : BitVec n) : SameRegisters s (u.reserve a) :=
  ⟨h.cfg, h.x, h.pc, h.f, h.frm, h.fflags⟩

theorem SameRegisters.clearReservation (h : SameRegisters s u) : SameRegisters s u.clearReservation :=
  ⟨h.cfg, h.x, h.pc, h.f, h.frm, h.fflags⟩

theorem SameRegisters.writeBytes (h : SameRegisters s u) {n w : Nat} (a : BitVec n) (v : BitVec w) (c : Nat) :
    SameRegisters s (u.writeBytes a v c) :=
  ⟨by simp [h.cfg], by simp [h.x], by simp [h.pc], by simp [h.f], by simp [h.frm], by simp [h.fflags]⟩

/-- After such updates, writing `x[rd]` and moving on shows nothing else of the registers changed. -/
theorem SameRegisters.setX_advance (h : SameRegisters s u) (rd : RegNum) (v : BitVec s.xlen) :
    XIs s (u.setX rd v).advance rd v.toNat ∧ (u.setX rd v).advance.pcNat = s.seqPc ∧
      SameF s (u.setX rd v).advance ∧ SameFcsr s (u.setX rd v).advance ∧ (u.setX rd v).advance.cfg = s.cfg := by
  refine ⟨fun r => ?_, advance_pcNat_of (by simp [h.cfg]) (by simp [h.pc]),
    fun r => State.fNat_congr (by simp [h.cfg]) (by simp [h.f]) r, by simp [SameFcsr, h.frm, h.fflags],
    by simp [h.cfg]⟩
  have hxlen : u.xlen = s.xlen := by rw [State.xlen, h.cfg, State.xlen]
  calc (u.setX rd v).advance.xNat r
      = (u.setX rd v).xNat r := State.xNat_congr (by simp) (by simp) r
    _ = if r = rd ∧ rd ≠ 0 then v.toNat else s.xNat r := by
        rw [u.setX_xNat rd r v, hxlen, Nat.mod_eq_of_lt v.isLt, State.xNat_congr h.cfg h.x]

/-- The reservation as a number: the low `XLEN` bits of its container. -/
theorem State.reservation_toNat (s : State) : s.reservation.map BitVec.toNat = s.lr.map (·.toNat % 2 ^ s.xlen) := by
  rw [State.reservation, Option.map_map]
  congr 1
  funext a
  simp

theorem State.reservation_eq_iff (s : State) (a : BitVec s.xlen) :
    s.reservation = some a ↔ s.reservation.map BitVec.toNat = some a.toNat := by
  have hinj : Function.Injective (BitVec.toNat : BitVec s.xlen → Nat) := fun _ _ => BitVec.eq_of_toNat_eq
  exact (Option.map_injective hinj).eq_iff.symm

/-- A store of `count` bytes takes no more than the low `8 * count` bits of its value. -/
theorem storedAt_of_mod {a : BitVec s.xlen} {count v : Nat} (hc : count ≤ 16)
    (h : StoredAt s u a.toNat count (v % 2 ^ (8 * count))) : StoredAt s u a.toNat count v := by
  obtain ⟨hread, hdirty⟩ := h
  have h16 : 16 ≤ 2 ^ s.xlen := by rcases s.xlen_cases with hx | hx <;> simp [hx]
  refine ⟨fun b => ?_, hdirty⟩
  rw [hread b]
  split
  · next hb =>
    obtain ⟨k, hk, rfl⟩ := hb
    rw [offset_of_byteAddr a k (by omega)]
    have hsplit : 2 ^ (8 * count) = 2 ^ (8 * k) * (2 ^ 8 * 2 ^ (8 * (count - k - 1))) := by
      rw [← pow_add, ← pow_add]
      congr 1
      omega
    congr 1
    apply BitVec.eq_of_toNat_eq
    rw [BitVec.toNat_ofNat, BitVec.toNat_ofNat, hsplit, Nat.mod_mul_right_div_self, Nat.mod_mul_right_mod]
  · rfl

end

end Sys2Proof.Machine
end

section
/-! PROOFS. The operations of the AMOs on patterns, as operations on numbers (spec/43_rv32a_rv64a.md R235 to R243). -/

namespace Sys2Proof.Machine

/-- The operation on patterns is the operation `f` on their numbers, modulo `2^n`. -/
def Computes {n : Nat} (op : BitVec n → BitVec n → BitVec n) (f : Nat → Nat → Nat) : Prop :=
  ∀ a b, op a b = BitVec.ofNat n (f a.toNat b.toNat)

variable {n : Nat}

theorem Computes.toNat {op : BitVec n → BitVec n → BitVec n} {f : Nat → Nat → Nat} (hop : Computes op f)
    (a b : BitVec n) : (op a b).toNat = f a.toNat b.toNat % 2 ^ n := by
  rw [hop, BitVec.toNat_ofNat]

theorem computes_fst : Computes (n := n) (fun a _ => a) (fun a _ => a) := fun a _ => by
  rw [BitVec.ofNat_toNat, BitVec.setWidth_eq]

theorem computes_add : Computes (n := n) (· + ·) (fun a b => a + b) := BitVec.add_def

theorem computes_xor : Computes (n := n) (· ^^^ ·) (fun a b => a ^^^ b) := fun a b => by
  simp only [BitVec.ofNat_xor, BitVec.ofNat_toNat, BitVec.setWidth_eq]

theorem computes_or : Computes (n := n) (· ||| ·) (fun a b => a ||| b) := fun a b => by
  simp only [BitVec.ofNat_or, BitVec.ofNat_toNat, BitVec.setWidth_eq]

theorem computes_and : Computes (n := n) (· &&& ·) (fun a b => a &&& b) := fun a b => by
  simp only [BitVec.ofNat_and, BitVec.ofNat_toNat, BitVec.setWidth_eq]

/-- A choice of one of two patterns is the same choice of their numbers. -/
theorem ite_eq_ofNat {c : Bool} {p : Prop} [Decidable p] (hc : c = true ↔ p) (a b : BitVec n) :
    (if c then a else b) = BitVec.ofNat n (if p then a.toNat else b.toNat) := by
  simp only [hc]
  split <;> rw [BitVec.ofNat_toNat, BitVec.setWidth_eq]

theorem slt_iff_asSigned (a b : BitVec n) : a.slt b = true ↔ asSigned n a.toNat < asSigned n b.toNat := by
  rw [BitVec.slt_iff_toInt_lt, asSigned_toNat, asSigned_toNat]

theorem computes_minSigned :
    Computes (n := n) minSigned (fun a b => if asSigned n a < asSigned n b then a else b) :=
  fun a b => ite_eq_ofNat (slt_iff_asSigned a b) a b

theorem computes_maxSigned :
    Computes (n := n) maxSigned (fun a b => if asSigned n a < asSigned n b then b else a) :=
  fun a b => ite_eq_ofNat (slt_iff_asSigned a b) b a

theorem computes_minUnsigned : Computes (n := n) minUnsigned (fun a b => if a < b then a else b) :=
  fun a b => ite_eq_ofNat BitVec.ult_iff_toNat_lt a b

theorem computes_maxUnsigned : Computes (n := n) maxUnsigned (fun a b => if a < b then b else a) :=
  fun a b => ite_eq_ofNat BitVec.ult_iff_toNat_lt b a

end Sys2Proof.Machine
end

section
/-! PROOFS. What `lr`, `sc` and the AMOs end in, in the terms of the claims. -/

namespace Sys2Proof.Machine

variable {s : State} {i : Instr} {rd rs1 rs2 : RegNum} {bytes : Nat}

theorem signExtend_toNat_asSigned {n m : Nat} (v : BitVec n) :
    (v.signExtend m).toNat = wrap m (asSigned n v.toNat) := by
  rw [signExtend_toNat, asSigned_toNat]

/-- Known bytes are those of one pattern, and a read of them goes on with it. -/
theorem readBytes_pattern (b : Nat → Byte) (bytes : Nat) :
    ∃ v : BitVec (8 * bytes), v.toNat = bytesNat b bytes ∧ ∀ {s : State} {a : BitVec s.xlen}
      {k : BitVec (8 * bytes) → State → Result}, s.holds a.toNat bytes b → readBytes a bytes s k = k v s :=
  ⟨_, ofNat_bytesNat_toNat b bytes, readBytes_known⟩

/-- A load-reserved has the laws of `lr`; the address it reserves is read before `x[rd]` is written. -/
theorem loadReservedLaw_of (h : exec i s = loadReserved bytes rd rs1 s) : LoadReservedLaw i s rd rs1 bytes := by
  refine ⟨turnedAway_of h, fun b ha hp hb => ?_⟩
  obtain ⟨v, hv, hread⟩ := readBytes_pattern b bytes
  have hexec : exec i s = writeReg rd (v.signExtend s.xlen) (s.reserve (s.getX rs1)) := by
    rw [h, loadReserved, checked_passes ha hp, hread hb]
  obtain ⟨hx, hpc, hf, hfcsr, hcfg⟩ :=
    ((SameRegisters.refl s).reserve (s.getX rs1)).setX_advance rd (v.signExtend s.xlen)
  rw [signExtend_toNat_asSigned, hv] at hx
  refine ⟨_, hexec, hx, ?reservation, hpc, hf, hfcsr, by simp [SameMem], hcfg, by simp⟩
  rw [State.reservation_toNat, State.advance_lr, State.setX_lr, State.reserve_lr, State.advance_xlen, State.setX_xlen,
    State.reserve_xlen, Option.map_some, setWidth_roundtrip _ s.xlen_le, State.getX_toNat,
    Nat.mod_eq_of_lt (s.xNat_lt rs1)]

section

/-! `sc` past its checks, by its three cases. -/

variable (ha : s.xNat rs1 % bytes = 0) (hp : s.allowed .conditional (s.xNat rs1) bytes)

include ha hp

theorem storeConditional_unreserved (hr : s.reservation ≠ some (s.getX rs1)) :
    storeConditional bytes rd rs1 rs2 s = writeReg rd (1 : BitVec s.xlen) s.clearReservation := by
  rw [storeConditional, checked_passes ha hp, if_neg hr]

theorem storeConditional_succeeds (hr : s.reservation = some (s.getX rs1)) (hd : Config.scSucceeds s.draws = true) :
    storeConditional bytes rd rs1 rs2 s =
      writeReg rd (0 : BitVec s.xlen) (s.drawn.writeBytes (s.getX rs1) (s.getX rs2) bytes).clearReservation := by
  rw [storeConditional, checked_passes ha hp, if_pos hr, if_pos hd]

theorem storeConditional_fails (hr : s.reservation = some (s.getX rs1)) (hd : ¬ Config.scSucceeds s.draws = true) :
    storeConditional bytes rd rs1 rs2 s = writeReg rd (1 : BitVec s.xlen) s.drawn.clearReservation := by
  rw [storeConditional, checked_passes ha hp, if_pos hr, if_neg hd]

end

/-- The code of `sc` in `x[rd]`, after the reservation is cleared. -/
theorem conditionalEnd_of {u : State} (h : SameRegisters s u) (rd : RegNum) {v : BitVec s.xlen} {code : Nat}
    (hv : v.toNat = code) : ConditionalEnd s (u.clearReservation.setX rd v).advance rd code := by
  obtain ⟨hx, hpc, hf, hfcsr, hcfg⟩ := h.clearReservation.setX_advance rd v
  exact ⟨hv ▸ hx, by simp [State.reservation], hpc, hf, hfcsr, hcfg⟩

/-- A store-conditional has the laws of `sc`. -/
theorem storeConditionalLaw_of (h : exec i s = storeConditional bytes rd rs1 rs2 s) (hc : bytes ≤ 16) :
    StoreConditionalLaw i s rd rs1 rs2 bytes := by
  have hone : (1 : BitVec s.xlen).toNat = 1 := BitVec.toNat_one s.xlen_pos
  refine ⟨turnedAway_of h, fun ha hp => ⟨fun hr => ?unreserved, fun hr => ?reserved⟩⟩
  case unreserved =>
    have hr' : s.reservation ≠ some (s.getX rs1) := fun he => hr ((s.reservation_eq_iff _).mp he)
    exact ⟨_, h.trans (storeConditional_unreserved ha hp hr'), conditionalEnd_of (.refl s) rd hone, by simp [SameMem],
      by simp⟩
  case reserved =>
    have hr' := (s.reservation_eq_iff _).mpr hr
    by_cases hd : Config.scSucceeds s.draws = true
    · simp only [if_pos hd]
      have hstored : StoredAt s (s.drawn.writeBytes (s.getX rs1) (s.getX rs2) bytes) (s.xNat rs1) bytes (s.xNat rs2) :=
        storedAt_writeBytes (s := s.drawn) (s.getX rs1) (s.getX rs2) bytes hc
      exact ⟨_, h.trans (storeConditional_succeeds ha hp hr' hd),
        conditionalEnd_of ((SameRegisters.refl s).drawn.writeBytes _ _ _) rd (by simp),
        storedAt_congr hstored (by simp) (by simp), by simp⟩
    · simp only [if_neg hd]
      exact ⟨_, h.trans (storeConditional_fails ha hp hr' hd), conditionalEnd_of (SameRegisters.refl s).drawn rd hone,
        by simp [SameMem], by simp⟩

/-- An AMO whose operation computes `f` has the laws of an AMO under `f`. -/
theorem amoLaw_of {op : BitVec (8 * bytes) → BitVec (8 * bytes) → BitVec (8 * bytes)} {f : Nat → Nat → Nat}
    (h : exec i s = amo bytes op rd rs1 rs2 s) (hop : Computes op f) (hc : bytes ≤ 16) :
    AmoLaw i s rd rs1 rs2 bytes f := by
  refine ⟨turnedAway_of h, fun b ha hp hb => ?_⟩
  obtain ⟨old, hold, hread⟩ := readBytes_pattern b bytes
  obtain ⟨new, hnew⟩ : ∃ new, new = op ((s.getX rs2).setWidth (8 * bytes)) old := ⟨_, rfl⟩
  have hexec : exec i s = writeReg rd (old.signExtend s.xlen) (s.writeBytes (s.getX rs1) new bytes) := by
    rw [h, amo, checked_passes ha hp, hread hb, hnew]
  have hstored : StoredAt s (s.writeBytes (s.getX rs1) new bytes) (s.xNat rs1) bytes
      (f (s.xNat rs2 % 2 ^ (8 * bytes)) (bytesNat b bytes)) := by
    have hmod : new.toNat = f (s.xNat rs2 % 2 ^ (8 * bytes)) (bytesNat b bytes) % 2 ^ (8 * bytes) := by
      rw [hnew, hop.toNat, BitVec.toNat_setWidth, hold, State.getX_toNat]
    exact storedAt_of_mod hc (hmod ▸ storedAt_writeBytes (s.getX rs1) new bytes hc)
  obtain ⟨hx, hpc, hf, hfcsr, hcfg⟩ :=
    ((SameRegisters.refl s).writeBytes (s.getX rs1) new bytes).setX_advance rd (old.signExtend s.xlen)
  rw [signExtend_toNat_asSigned, hold] at hx
  exact ⟨_, hexec, hx, storedAt_congr hstored (by simp) (by simp), hpc, hf, hfcsr,
    reservation_of_lr (by simp) (by simp), hcfg, by simp⟩

end Sys2Proof.Machine
end

section
/-! PROOFS. The laws of RV32A and RV64A (spec/43_rv32a_rv64a.md). -/

namespace Sys2Proof.Machine

theorem State.has_rv64a (s : State) : s.cfg.has .rv64a = true ↔ s.cfg.extA = true ∧ s.xlen = 64 := by
  rw [Config.has, Bool.and_eq_true, ← s.has_rv64i]; rfl

/-- Settles O24: both are `loadReserved` of 4 or 8 bytes, behind the check of their table; the decoder tests `rs2`. -/
theorem loadReservedLaws : Obligations.LoadReservedLaws := by
  intro s rd rs1 aq rl hA
  have h32 : s.cfg.has .rv32a = true := hA
  refine ⟨row_of_funct5_rs2 rfl, row_of_funct5_rs2 rfl,
    loadReservedLaw_of (requires_has h32), fun h64 => ?lrD, fun w i h hrs2 => ?reserved⟩
  case lrD => exact loadReservedLaw_of (requires_has (s.has_rv64a.mpr ⟨hA, h64⟩))
  case reserved => rw [decode_lr_of_rs2 h hrs2]; exact nofun

/-- Settles O25: both are `storeConditional` of 4 or 8 bytes, behind the check of their table. -/
theorem storeConditionalLaws : Obligations.StoreConditionalLaws := by
  intro s rd rs1 rs2 aq rl hA
  have h32 : s.cfg.has .rv32a = true := hA
  refine ⟨row_of_funct5 rfl, row_of_funct5 rfl,
    storeConditionalLaw_of (requires_has h32) (by decide), fun h64 => ?scD⟩
  case scD => exact storeConditionalLaw_of (requires_has (s.has_rv64a.mpr ⟨hA, h64⟩)) (by decide)

/-- Settles O26: the nine are `amo` of 4 bytes, each with an operation that computes the stated one. -/
theorem amoWordLaws : Obligations.AmoWordLaws := by
  intro s rd rs1 rs2 aq rl hA
  have htab : s.cfg.has .rv32a = true := hA
  have hc : 4 ≤ 16 := by decide
  exact ⟨row_of_funct5 rfl, row_of_funct5 rfl, row_of_funct5 rfl, row_of_funct5 rfl, row_of_funct5 rfl,
    row_of_funct5 rfl, row_of_funct5 rfl, row_of_funct5 rfl, row_of_funct5 rfl,
    amoLaw_of (requires_has htab) computes_fst hc, amoLaw_of (requires_has htab) computes_add hc,
    amoLaw_of (requires_has htab) computes_xor hc, amoLaw_of (requires_has htab) computes_or hc,
    amoLaw_of (requires_has htab) computes_and hc, amoLaw_of (requires_has htab) computes_minSigned hc,
    amoLaw_of (requires_has htab) computes_maxSigned hc, amoLaw_of (requires_has htab) computes_minUnsigned hc,
    amoLaw_of (requires_has htab) computes_maxUnsigned hc⟩

/-- Settles O27: the nine are `amo` of 8 bytes, each with an operation that computes the stated one. -/
theorem amoDoublewordLaws : Obligations.AmoDoublewordLaws := by
  intro s rd rs1 rs2 aq rl hA h64
  have htab : s.cfg.has .rv64a = true := s.has_rv64a.mpr ⟨hA, h64⟩
  have hc : 8 ≤ 16 := by decide
  exact ⟨row_of_funct5 rfl, row_of_funct5 rfl, row_of_funct5 rfl, row_of_funct5 rfl, row_of_funct5 rfl,
    row_of_funct5 rfl, row_of_funct5 rfl, row_of_funct5 rfl, row_of_funct5 rfl,
    amoLaw_of (requires_has htab) computes_fst hc, amoLaw_of (requires_has htab) computes_add hc,
    amoLaw_of (requires_has htab) computes_xor hc, amoLaw_of (requires_has htab) computes_or hc,
    amoLaw_of (requires_has htab) computes_and hc, amoLaw_of (requires_has htab) computes_minSigned hc,
    amoLaw_of (requires_has htab) computes_maxSigned hc, amoLaw_of (requires_has htab) computes_minUnsigned hc,
    amoLaw_of (requires_has htab) computes_maxUnsigned hc⟩

end Sys2Proof.Machine
end

section
/-! PROOFS. The words of the system instructions: the rows that fix more than the opcode and `funct3`. -/

namespace Sys2Proof.Machine

/-- The mask of the counter reads keeps every field but `rd`. -/
theorem row_of_all_but_rd {i : Instr} {m : Nat} (h7 : (fieldsOf i).f7 = (Fields.split (.ofNat 32 m)).f7 := by rfl)
    (h2 : (fieldsOf i).rs2 = (Fields.split (.ofNat 32 m)).rs2 := by rfl)
    (h1 : (fieldsOf i).rs1 = (Fields.split (.ofNat 32 m)).rs1 := by rfl)
    (h3 : (fieldsOf i).f3 = (Fields.split (.ofNat 32 m)).f3 := by rfl)
    (hop : (fieldsOf i).op = (Fields.split (.ofNat 32 m)).op := by rfl)
    (hm : Fields.join { Fields.split (.ofNat 32 m) with rd := 0#5 } = .ofNat 32 m := by decide) :
    Row i m 0xfffff07f := by
  have hmask : BitVec.ofNat 32 0xfffff07f = Fields.join ⟨BitVec.allOnes 7, BitVec.allOnes 5, BitVec.allOnes 5,
      BitVec.allOnes 3, 0#5, BitVec.allOnes 7⟩ := by decide
  rw [Row, encode, hmask, fields_join_and, h7, h2, h1, h3, hop]
  simpa only [BitVec.and_zero, BitVec.and_allOnes] using hm

/-- The mask of an instruction without operands keeps the whole word. -/
theorem row_of_word {i : Instr} {m : Nat} (h : encode i = .ofNat 32 m) : Row i m 0xffffffff := by
  have hmask : BitVec.ofNat 32 0xffffffff = BitVec.allOnes 32 := by decide
  rw [Row, hmask, BitVec.and_allOnes, h]

end Sys2Proof.Machine
end

section
/-! PROOFS. The CSR address space (spec/10_state.md R37, R41): what stands at an address, what it reads as, and what a write
leaves. -/

namespace Sys2Proof.Machine

theorem State.fcsr_toNat (s : State) : s.fcsr.toNat = 2 ^ 5 * s.frm.toNat + s.fflags.toNat := by
  rw [State.fcsr, BitVec.toNat_append, ← Nat.shiftLeft_add_eq_or_of_lt s.fflags.isLt, Nat.shiftLeft_eq, Nat.mul_comm]

/-- A pattern of no more than 32 bits fits a register. -/
theorem State.toNat_setWidth_xlen (s : State) {n : Nat} (v : BitVec n) (hn : n ≤ 32) :
    (v.setWidth s.xlen).toNat = v.toNat :=
  BitVec.toNat_setWidth_of_le (hn.trans s.xlen_ge)

/-- The high halves of the counters are there at `XLEN` = 32 only (R273). -/
theorem State.has_counterHighRows (s : State) :
    s.cfg.has .counterHighRows = true ↔ s.cfg.extSys = true ∧ s.xlen = 32 := by
  rw [Config.has, Bool.and_eq_true, Bool.not_eq_true']
  rcases s.xlen_cases with h32 | h64
  · simp [s.is64_ne h32, h32]
  · simp [s.is64_eq h64, h64]

section

variable {s : State} {a : BitVec 12}

/-- No CSR stands at an address that is none under the parameters. -/
theorem csrAt_of_absent (h : ¬ s.csrExists a) : csrAt s.cfg a = none := by
  have hview : a = 0x001 ∨ a = 0x002 ∨ a = 0x003 → s.cfg.extF = false := fun ha =>
    Bool.eq_false_iff.mpr fun hF => h (.inl ⟨hF, ha⟩)
  have hlow : a = 0xc00 ∨ a = 0xc01 ∨ a = 0xc02 → s.cfg.extSys = false := fun ha =>
    Bool.eq_false_iff.mpr fun hS => h (.inr (.inl ⟨hS, ha⟩))
  have hhigh : a = 0xc80 ∨ a = 0xc81 ∨ a = 0xc82 → (s.cfg.extSys && !s.cfg.is64) = false := fun ha =>
    Bool.eq_false_iff.mpr fun hrow =>
      have ⟨hS, h32⟩ := s.has_counterHighRows.mp hrow
      h (.inr (.inr ⟨hS, h32, ha⟩))
  unfold csrAt
  split <;> simp_all

/-- The view of `fcsr` at an address: it is writable, it reads as the claims say, and a write leaves what they say. -/
theorem csrAt_of_view (h : s.csrExists a) (hv : ¬ csrIsCounter a) :
    ∃ c, csrAt s.cfg a = some c ∧ c.readOnly = false ∧ (s.csrValue c).toNat = s.fcsrView a ∧
      ∀ v : BitVec s.xlen, FcsrWritten s (s.csrWrite c v) a v.toNat := by
  have hF : s.cfg.extF = true ∧ (a = 0x001 ∨ a = 0x002 ∨ a = 0x003) := by
    unfold csrIsCounter at hv
    tauto
  obtain ⟨hF, rfl | rfl | rfl⟩ := hF
  · exact ⟨.fflags, if_pos hF, rfl, s.toNat_setWidth_xlen _ (by decide), fun v => ⟨BitVec.toNat_setWidth 5 v, rfl⟩⟩
  · exact ⟨.frm, if_pos hF, rfl, s.toNat_setWidth_xlen _ (by decide), fun v => ⟨BitVec.toNat_setWidth 3 v, rfl⟩⟩
  · refine ⟨.fcsr, if_pos hF, rfl, (s.toNat_setWidth_xlen _ (by decide)).trans s.fcsr_toNat, fun v =>
      ⟨BitVec.toNat_setWidth 5 v, ?_⟩⟩
    change (v.extractLsb' 5 3).toNat = _
    rw [BitVec.extractLsb'_toNat, Nat.shiftRight_eq_div_pow]

theorem State.csrValue_counter_toNat (s : State) (c : Counter) :
    (s.csrValue (.counter c)).toNat = (Config.counter c s.draws).toNat % 2 ^ s.xlen := BitVec.toNat_setWidth _ _

theorem State.csrValue_counterHigh_toNat (s : State) (c : Counter) :
    (s.csrValue (.counterHigh c)).toNat = (Config.counter c s.draws).toNat / 2 ^ 32 := by
  have hlt : (Config.counter c s.draws).toNat / 2 ^ 32 < 2 ^ 32 :=
    Nat.div_lt_of_lt_mul (Config.counter c s.draws).isLt
  rw [State.csrValue, s.toNat_setWidth_xlen _ le_rfl, BitVec.extractLsb'_toNat, Nat.shiftRight_eq_div_pow,
    Nat.mod_eq_of_lt hlt]

/-- The counter, or the high half of one, at an address: it is read-only, and reads as the claims say. -/
theorem csrAt_of_counter (h : s.csrExists a) (hc : csrIsCounter a) :
    ∃ c, csrAt s.cfg a = some c ∧ c.readOnly = true ∧ (s.csrValue c).toNat = s.counterView a := by
  rcases h with ⟨-, hview⟩ | ⟨hS, hlow⟩ | ⟨hS, h32, hhigh⟩
  · rcases hview with rfl | rfl | rfl <;> exact absurd hc (by decide)
  · rcases hlow with rfl | rfl | rfl
    · exact ⟨.counter .cycle, if_pos hS, rfl, s.csrValue_counter_toNat _⟩
    · exact ⟨.counter .time, if_pos hS, rfl, s.csrValue_counter_toNat _⟩
    · exact ⟨.counter .instret, if_pos hS, rfl, s.csrValue_counter_toNat _⟩
  · have hrow : s.cfg.has .counterHighRows = true := s.has_counterHighRows.mpr ⟨hS, h32⟩
    rcases hhigh with rfl | rfl | rfl
    · exact ⟨.counterHigh .cycle, if_pos hrow, rfl, s.csrValue_counterHigh_toNat _⟩
    · exact ⟨.counterHigh .time, if_pos hrow, rfl, s.csrValue_counterHigh_toNat _⟩
    · exact ⟨.counterHigh .instret, if_pos hrow, rfl, s.csrValue_counterHigh_toNat _⟩

end

end Sys2Proof.Machine
end

section
/-! PROOFS. What a CSR access (spec/44_rv32s.md R276) ends in, by what stands at the address. -/

namespace Sys2Proof.Machine

variable {s : State} {i : Instr} {rd : RegNum} {a : BitVec 12} {c : Csr} {reads : Bool}
  {write : Option (BitVec s.xlen → BitVec s.xlen)}

theorem csrAccess_absent (h : csrAt s.cfg a = none) : csrAccess i rd a reads s write = illegal i s := by
  rw [csrAccess, h]

/-- A write of a read-only CSR is illegal, before anything is read. -/
theorem csrAccess_readOnly_write (hc : csrAt s.cfg a = some c) (hro : c.readOnly = true) (hw : write.isSome = true) :
    csrAccess i rd a reads s write = illegal i s := by
  simp only [csrAccess, hc, hro, hw, Bool.and_self, if_true]

/-- A read of a read-only CSR takes a draw. -/
theorem csrAccess_readOnly_read (hc : csrAt s.cfg a = some c) (hro : c.readOnly = true) :
    csrAccess i rd a true s none = writeReg rd (s.csrValue c) s.drawn := by
  simp [csrAccess, hc, hro, State.csrRead]

theorem writeReg_zero {n : Nat} (v : BitVec n) (s : State) : writeReg 0 v s = .next s.advance := by
  rw [writeReg, State.setX_zero]

/-- An access that does not read is one whose value would go to `x0`, so it need not be told from one that reads. -/
theorem csrAccess_writable (hc : csrAt s.cfg a = some c) (hro : c.readOnly = false) (hr : reads = false → rd = 0) :
    csrAccess i rd a reads s write =
      writeReg rd (s.csrValue c) (write.elim s fun g => s.csrWrite c (g (s.csrValue c))) := by
  cases reads with
  | true => cases write <;> simp [csrAccess, State.csrRead, hc, hro]
  | false =>
    obtain rfl := hr rfl
    rw [writeReg_zero]
    cases write <;> simp [csrAccess, hc, hro]

/-- An instruction that accesses no CSR is illegal, whether its row is available or not. -/
theorem illegal_of_absent {tab : InstrTable} (h : exec i s = requires tab i s (csrAccess i rd a reads s write))
    (ha : ¬ s.csrExists a) : Illegal i s :=
  illegal_of (h := by rw [h, csrAccess_absent (csrAt_of_absent ha)]; exact ite_self _)

/-- An instruction that writes a counter is illegal, whether its row is available or not. -/
theorem illegal_of_counterWrite {tab : InstrTable} (h : exec i s = requires tab i s (csrAccess i rd a reads s write))
    (ha : s.csrExists a) (hc : csrIsCounter a) (hw : write.isSome = true) : Illegal i s := by
  obtain ⟨c, hat, hro, -⟩ := csrAt_of_counter ha hc
  exact illegal_of (h := by rw [h, csrAccess_readOnly_write hat hro hw]; exact ite_self _)

/-- A read of a counter completes with the free value of a draw. -/
theorem completesDraw_of_counter (h : exec i s = csrAccess i rd a true s none) (ha : s.csrExists a)
    (hc : csrIsCounter a) : CompletesDraw i s rd (s.counterView a) := by
  obtain ⟨c, hat, hro, hval⟩ := csrAt_of_counter ha hc
  refine completesDraw_of (h.trans (csrAccess_readOnly_read hat hro)) ?_
  rw [Nat.mod_eq_of_lt (s.csrValue c).isLt, hval]

/-- A written view of `fcsr` leaves the rest of the state as it is. -/
theorem completesCsr_of_csrWrite {n : Nat} {v w : BitVec s.xlen}
    (h : exec i s = writeReg rd v (s.csrWrite c w)) (hv : v.toNat = s.fcsrView a)
    (hw : FcsrWritten s (s.csrWrite c w) a n) : CompletesCsr i s rd a (some n) := by
  refine ⟨_, h, fun r => ?x, ?written, nofun, advance_pcNat_of (by simp) (by simp),
    fun r => State.fNat_congr (by simp) (by simp) r, by simp [SameMem], reservation_of_lr (by simp) (by simp),
    by simp [SameRun]⟩
  case x =>
    calc ((s.csrWrite c w).setX rd v).advance.xNat r
        = ((s.csrWrite c w).setX rd v).xNat r := State.xNat_congr rfl rfl r
      _ = if r = rd ∧ rd ≠ 0 then s.fcsrView a else s.xNat r := by
          rw [State.setX_xNat, State.csrWrite_xlen, Nat.mod_eq_of_lt v.isLt, hv,
            State.xNat_congr (s.csrWrite_cfg c w) (s.csrWrite_x c w)]
  case written =>
    intro m hm
    obtain rfl := Option.some.inj hm
    simpa only [FcsrWritten, State.advance_frm, State.advance_fflags, State.setX_frm, State.setX_fflags] using hw

/-- An access of a view of `fcsr` completes; `n` is the number written, if there is a write. -/
theorem completesCsr_of_access {n : Option Nat} (h : exec i s = csrAccess i rd a reads s write)
    (hr : reads = false → rd = 0) (ha : s.csrExists a) (hv : ¬ csrIsCounter a)
    (hn : ∀ old : BitVec s.xlen, old.toNat = s.fcsrView a → n = write.map fun g => (g old).toNat) :
    CompletesCsr i s rd a n := by
  obtain ⟨c, hat, hro, hval, hwritten⟩ := csrAt_of_view ha hv
  rw [csrAccess_writable hat hro hr] at h
  obtain rfl := hn _ hval
  cases write with
  | none =>
    obtain ⟨t, ht, hx, hpc, hf, hfcsr, hmem, hlr, hrun⟩ := completesX_of_xlen h hval
    exact ⟨t, ht, hx, nofun, fun _ => hfcsr, hpc, hf, hmem, hlr, hrun⟩
  | some g => exact completesCsr_of_csrWrite h hval (hwritten _)

section

/-! The three kinds of write: swap, set bits, clear bits (R277 to R282). -/

/-- Clearing the bits that are set in `b`. -/
theorem andNot_toNat {n : Nat} (a b : BitVec n) : (a &&& ~~~b).toNat = a.toNat ^^^ (a.toNat &&& b.toNat) := by
  have hxor : a &&& ~~~b = a ^^^ (a &&& b) := by
    apply BitVec.eq_of_getLsbD_eq
    intro k hk
    cases ha : a[k] <;> simp [ha, hk]
  rw [hxor, BitVec.toNat_xor, BitVec.toNat_and]

variable {v : BitVec s.xlen} {m : Nat} {field : BitVec 5} (ha : s.csrExists a) (hv : ¬ csrIsCounter a)
  (hm : v.toNat = m)

include ha hv hm

theorem completesCsr_of_swap (h : exec i s = csrSwap i rd a s v) : CompletesCsr i s rd a (some m) :=
  completesCsr_of_access h (by simp) ha hv fun _ _ => congrArg some hm.symm

theorem completesCsr_of_set (h : exec i s = csrSet i rd a field s v) :
    CompletesCsr i s rd a (if field = 0 then none else some (s.fcsrView a ||| m)) := by
  refine completesCsr_of_access h nofun ha hv fun old hold => ?_
  split
  · rfl
  · rw [Option.map_some, BitVec.toNat_or, hold, hm]

theorem completesCsr_of_clear (h : exec i s = csrClear i rd a field s v) :
    CompletesCsr i s rd a (if field = 0 then none else some (s.fcsrView a ^^^ (s.fcsrView a &&& m))) := by
  refine completesCsr_of_access h nofun ha hv fun old hold => ?_
  split
  · rfl
  · rw [Option.map_some, andNot_toNat, hold, hm]

end

end Sys2Proof.Machine
end

section
/-! PROOFS. The laws of RV32S (spec/44_rv32s.md). -/

namespace Sys2Proof.Machine

/-- Settles O31: each is a swap, a set or a clear behind the check of its table, and what stands at the address says how it
ends. -/
theorem csrInstructionLaws : Obligations.CsrInstructionLaws := by
  intro s rd rs1 zimm a
  refine ⟨row_of_funct3, row_of_funct3, row_of_funct3, row_of_funct3, row_of_funct3, row_of_funct3,
    fun hS ha hv => ?view, fun hS ha hc => ?counter, fun ha => ?absent⟩
  case view =>
    have htab : s.cfg.has .rv32s = true := hS
    have hx := s.getX_toNat rs1
    have hz := s.toNat_setWidth_xlen zimm (by decide)
    exact ⟨completesCsr_of_swap ha hv hx (requires_has htab), completesCsr_of_set ha hv hx (requires_has htab),
      completesCsr_of_clear ha hv hx (requires_has htab), completesCsr_of_swap ha hv hz (requires_has htab),
      completesCsr_of_set ha hv hz (requires_has htab), completesCsr_of_clear ha hv hz (requires_has htab)⟩
  case counter =>
    have htab : s.cfg.has .rv32s = true := hS
    refine ⟨completesDraw_of_counter (requires_has htab) ha hc, completesDraw_of_counter (requires_has htab) ha hc,
      completesDraw_of_counter (requires_has htab) ha hc, completesDraw_of_counter (requires_has htab) ha hc,
      illegal_of_counterWrite rfl ha hc rfl, illegal_of_counterWrite rfl ha hc rfl, fun hrs1 => ?register,
      fun hzimm => ?immediate⟩
    case register =>
      exact ⟨illegal_of_counterWrite rfl ha hc (by rw [if_neg hrs1]; rfl),
        illegal_of_counterWrite rfl ha hc (by rw [if_neg hrs1]; rfl)⟩
    case immediate =>
      exact ⟨illegal_of_counterWrite rfl ha hc (by rw [if_neg hzimm]; rfl),
        illegal_of_counterWrite rfl ha hc (by rw [if_neg hzimm]; rfl)⟩
  case absent =>
    exact ⟨illegal_of_absent rfl ha, illegal_of_absent rfl ha, illegal_of_absent rfl ha, illegal_of_absent rfl ha,
      illegal_of_absent rfl ha, illegal_of_absent rfl ha⟩

/-- Settles O30: each is a read of the CSR at its counter's address; the high halves have a check of their own. -/
theorem counterReadLaws : Obligations.CounterReadLaws := by
  intro s rd hS
  have htab : s.cfg.has .rv32s = true := hS
  have hlow {a : BitVec 12} (h : a = 0xc00 ∨ a = 0xc01 ∨ a = 0xc02) : s.csrExists a := .inr (.inl ⟨hS, h⟩)
  have hhigh {a : BitVec 12} (h32 : s.xlen = 32) (h : a = 0xc80 ∨ a = 0xc81 ∨ a = 0xc82) : s.csrExists a :=
    .inr (.inr ⟨hS, h32, h⟩)
  have hrow (h32 : s.xlen = 32) : s.cfg.has .counterHighRows = true := s.has_counterHighRows.mpr ⟨hS, h32⟩
  have hlacks (h64 : s.xlen = 64) : s.cfg.has .counterHighRows = false :=
    Bool.eq_false_iff.mpr fun h => by have ⟨_, h32⟩ := s.has_counterHighRows.mp h; omega
  exact ⟨row_of_all_but_rd, row_of_all_but_rd, row_of_all_but_rd, row_of_all_but_rd, row_of_all_but_rd,
    row_of_all_but_rd, completesDraw_of_counter (requires_has htab) (hlow (by decide)) (by decide),
    completesDraw_of_counter (requires_has htab) (hlow (by decide)) (by decide),
    completesDraw_of_counter (requires_has htab) (hlow (by decide)) (by decide),
    fun h32 => completesDraw_of_counter (requires_has (hrow h32)) (hhigh h32 (by decide)) (by decide),
    fun h32 => completesDraw_of_counter (requires_has (hrow h32)) (hhigh h32 (by decide)) (by decide),
    fun h32 => completesDraw_of_counter (requires_has (hrow h32)) (hhigh h32 (by decide)) (by decide),
    fun h64 => illegal_of_lacks rfl (hlacks h64), fun h64 => illegal_of_lacks rfl (hlacks h64),
    fun h64 => illegal_of_lacks rfl (hlacks h64)⟩

/-- Settles O28: both raise their exception with `pc`, behind the check of their table. -/
theorem callAndBreakpointTrap : Obligations.CallAndBreakpointTrap := by
  intro s hS
  have htab : s.cfg.has .rv32s = true := hS
  exact ⟨row_of_word (by decide), row_of_word (by decide), traps_of_raise (requires_has htab),
    traps_of_raise (requires_has htab), rfl, rfl⟩

end Sys2Proof.Machine
end

section
/-! PROOFS. The words of the register moves, whose row fixes the `rs2` field too. -/

namespace Sys2Proof.Machine

/-- The mask of the register moves keeps the opcode, `funct3`, `funct7` and the `rs2` field. -/
theorem row_of_funct7_rs2 {i : Instr} {m : Nat} (h7 : (fieldsOf i).f7 = (Fields.split (.ofNat 32 m)).f7 := by rfl)
    (h2 : (fieldsOf i).rs2 = (Fields.split (.ofNat 32 m)).rs2 := by rfl)
    (h3 : (fieldsOf i).f3 = (Fields.split (.ofNat 32 m)).f3 := by rfl)
    (hop : (fieldsOf i).op = (Fields.split (.ofNat 32 m)).op := by rfl)
    (hm : Fields.join { Fields.split (.ofNat 32 m) with rs1 := 0#5, rd := 0#5 } = .ofNat 32 m := by decide) :
    Row i m 0xfff0707f := by
  have hmask : BitVec.ofNat 32 0xfff0707f = Fields.join ⟨BitVec.allOnes 7, BitVec.allOnes 5, 0#5,
      BitVec.allOnes 3, 0#5, BitVec.allOnes 7⟩ := by decide
  rw [Row, encode, hmask, fields_join_and, h7, h2, h3, hop]
  simpa only [BitVec.and_zero, BitVec.and_allOnes] using hm

end Sys2Proof.Machine
end

section
/-! PROOFS. The fields of a floating-point pattern as arithmetic on its number (spec/45_rv32f_rv64f.md R290), and the
operations that only rearrange or name them (R298, R303). -/

namespace Sys2Proof.Machine

variable {fmt : Fmt} (a b : fmt.Bits)

/-- Below the sign bit are the exponent field and the fraction field. -/
theorem Fmt.width_sub_one (fmt : Fmt) : fmt.width - 1 = fmt.expBits + fmt.fracBits := by cases fmt <;> rfl

theorem Fmt.two_pow_width (fmt : Fmt) : 2 ^ fmt.width = 2 ^ (fmt.width - 1) * 2 := by cases fmt <;> rfl

/-- The sign bit is what stands above the magnitude bits. -/
theorem Fmt.sign_toNat : (fmt.sign b).toNat = b.toNat / 2 ^ (fmt.width - 1) := by
  have hlt : b.toNat / 2 ^ (fmt.width - 1) < 2 := Nat.div_lt_of_lt_mul (fmt.two_pow_width ▸ b.isLt)
  rw [Fmt.sign, Nat.toNat_testBit, Nat.mod_eq_of_lt hlt]

theorem Fmt.sign_iff : fmt.sign b = true ↔ b.toNat / 2 ^ (fmt.expBits + fmt.fracBits) = 1 := by
  rw [← Fmt.width_sub_one, ← Fmt.sign_toNat, Bool.toNat_eq_one]

/-- Magnitude bits under a sign bit, neither of which reaches into the other. -/
theorem Fmt.withSign_toNat (neg : Bool) :
    (fmt.withSign neg a).toNat = neg.toNat * 2 ^ (fmt.width - 1) + a.toNat % 2 ^ (fmt.width - 1) := by
  have hmag : a.toNat % 2 ^ (fmt.width - 1) < 2 ^ (fmt.width - 1) := Nat.mod_lt _ (Nat.two_pow_pos _)
  rw [Fmt.withSign, Fmt.ofMagnitude, BitVec.toNat_ofNat, fmt.two_pow_width, Nat.mod_eq_of_lt (by split <;> omega)]
  cases neg <;> simp

theorem Fmt.copySign_toNat : (fmt.copySign a b).toNat =
    b.toNat / 2 ^ (fmt.width - 1) * 2 ^ (fmt.width - 1) + a.toNat % 2 ^ (fmt.width - 1) := by
  rw [Fmt.copySign, Fmt.withSign_toNat, Fmt.sign_toNat]

theorem not_toNat (p : Bool) : (!p).toNat = 1 - p.toNat := by cases p <;> rfl

theorem Fmt.copyNegatedSign_toNat : (fmt.copyNegatedSign a b).toNat =
    (1 - b.toNat / 2 ^ (fmt.width - 1)) * 2 ^ (fmt.width - 1) + a.toNat % 2 ^ (fmt.width - 1) := by
  rw [Fmt.copyNegatedSign, Fmt.withSign_toNat, not_toNat, Fmt.sign_toNat]

/-- Two bits differ if their sum is odd. -/
theorem bne_toNat (p q : Bool) : (p != q).toNat = (p.toNat + q.toNat) % 2 := by
  cases p <;> cases q <;> rfl

theorem Fmt.xorSign_toNat : (fmt.xorSign a b).toNat =
    (a.toNat / 2 ^ (fmt.width - 1) + b.toNat / 2 ^ (fmt.width - 1)) % 2 * 2 ^ (fmt.width - 1) +
      a.toNat % 2 ^ (fmt.width - 1) := by
  rw [Fmt.xorSign, Fmt.withSign_toNat, bne_toNat, Fmt.sign_toNat, Fmt.sign_toNat]

/-- The mask of `fclass` has one bit set, at the number of the class: both go through the same cases of the fields. -/
theorem Fmt.classify_toNat : (fmt.classify b).toNat = 2 ^ classOf fmt.expBits fmt.fracBits b.toNat := by
  have hexp : b.toNat / 2 ^ fmt.fracBits % 2 ^ fmt.expBits = fmt.expField b := rfl
  have hfrac : b.toNat % 2 ^ fmt.fracBits = fmt.fracField b := rfl
  have hmax : 2 ^ fmt.expBits - 1 = fmt.expMax := rfl
  rw [Fmt.classify, classOf]
  simp only [hexp, hfrac, hmax, ← Fmt.sign_iff]
  split_ifs <;> rfl

end Sys2Proof.Machine
end

section
/-! PROOFS. What the floating-point instructions that move or name bits end in, in the terms of the claims. -/

namespace Sys2Proof.Machine

/-- The table of the rows of a format that are available at both `XLEN` (spec/00_scope.md R9). -/
def Fmt.table : Fmt → InstrTable
  | .s => .rv32f
  | .d => .rv32d
  | .q => .rv32q

/-- A register holds every format whose rows are available. -/
theorem State.width_le_flen {s : State} {fmt : Fmt} (h : s.cfg.has fmt.table = true) : fmt.width ≤ s.flen := by
  rw [State.flen, Config.flen]
  cases fmt with
  | s =>
    have hF : s.cfg.extF = true := h
    rw [if_pos hF]
    split_ifs <;> decide
  | d =>
    have hD : s.cfg.extD = true := h
    rw [if_pos hD]
    split_ifs <;> decide
  | q =>
    have hQ : s.cfg.extQ = true := h
    rw [if_pos hQ]
    exact le_rfl

theorem State.has_rv64d (s : State) : s.cfg.has .rv64d = true ↔ s.cfg.extD = true ∧ s.xlen = 64 := by
  rw [Config.has, Bool.and_eq_true, ← s.has_rv64i]; rfl

section

variable {s : State} {i : Instr} {fmt : Fmt} {rd rs1 rs2 : RegNum} {imm : BitVec 12}

/-- The bytes of a format are no wider than the format. -/
theorem Fmt.bytes_le (fmt : Fmt) : 8 * (fmt.width / 8) ≤ fmt.width := Nat.mul_div_le fmt.width 8

/-- A floating-point load of an available format has the laws of one. -/
theorem floatLoadLaw_of (h : exec i s = requires fmt.table i s (loadFloat fmt rd rs1 imm s))
    (htab : s.cfg.has fmt.table = true) : FloatLoadLaw i s rd (s.addrNat rs1 imm) (fmt.width / 8) := by
  rw [requires_has htab] at h
  refine ⟨turnedAway_of h, fun b ha hp hb => ?_⟩
  obtain ⟨v, hv, hread⟩ := readBytes_pattern b (fmt.width / 8)
  have hexec : exec i s = .next (s.writeF rd v).advance := by rw [h, loadFloat, checked_passes ha hp, hread hb]
  exact hv ▸ completesFBits_of (fmt.bytes_le.trans (State.width_le_flen htab)) hexec

/-- A store that completes with the low `8 * count` bits of a value completes with the value. -/
theorem completesStore_of_mod {a : BitVec s.xlen} {count v : Nat} (hc : count ≤ 16)
    (h : CompletesStore i s a.toNat count (v % 2 ^ (8 * count))) : CompletesStore i s a.toNat count v := by
  obtain ⟨t, ht, hstored, hrest⟩ := h
  exact ⟨t, ht, storedAt_of_mod hc hstored, hrest⟩

/-- A floating-point store of an available format has the laws of a store of the register. -/
theorem storeLaw_of_storeFloat (h : exec i s = requires fmt.table i s (storeFloat fmt rs1 rs2 imm s))
    (htab : s.cfg.has fmt.table = true) : StoreLaw i s (s.addrNat rs1 imm) (fmt.width / 8) (s.fNat rs2) := by
  rw [requires_has htab] at h
  have hcount : fmt.width / 8 ≤ 16 := by cases fmt <;> decide
  have hwidth : fmt.width = 8 * (fmt.width / 8) := by cases fmt <;> rfl
  refine ⟨turnedAway_of h, fun ha hp => completesStore_of_mod hcount ?_⟩
  have hstore := completesStore_of hcount (h.trans (checked_passes ha hp))
  rwa [State.rawF_toNat, congrArg (2 ^ ·) hwidth] at hstore

theorem State.accrue_none (s : State) : s.accrue .none = s := by
  simp [State.accrue, FlagSet.none]

/-- A sign injection in an available format completes with its pattern and no flag. -/
theorem completesFBits_of_sign {op : fmt.Bits → fmt.Bits → fmt.Bits} {v : Nat}
    (h : exec i s = requires fmt.table i s (floatSign fmt op rd rs1 rs2 s)) (htab : s.cfg.has fmt.table = true)
    (hv : (op (s.readF fmt rs1) (s.readF fmt rs2)).toNat = v) : CompletesFBits i s rd fmt.width v := by
  rw [requires_has htab, floatSign, writeFloat, State.accrue_none] at h
  exact hv ▸ completesFBits_of (State.width_le_flen htab) h

/-- `fclass` in an available format completes with the mask of the class. -/
theorem completesX_of_class (h : exec i s = requires fmt.table i s (floatClass fmt rd rs1 s))
    (htab : s.cfg.has fmt.table = true) :
    CompletesX i s rd (2 ^ classOf fmt.expBits fmt.fracBits (s.readF fmt rs1).toNat) := by
  refine completesX_of_xlen (h.trans (requires_has htab)) ?_
  have hx := s.xlen_ge
  rw [BitVec.toNat_setWidth_of_le (by omega), Fmt.classify_toNat]

/-- A move to an integer register completes with the low bits, sign-extended. -/
theorem completesX_of_moveToInt (h : exec i s = moveToInt fmt rd rs1 s) :
    CompletesX i s rd (wrap s.xlen (asSigned fmt.width (s.fNat rs1 % 2 ^ fmt.width))) :=
  completesX_of_xlen h (by rw [signExtend_toNat_asSigned, State.rawF_toNat])

/-- A move to a floating-point register completes with the low bits. -/
theorem completesFBits_of_moveToFloat (h : exec i s = moveToFloat fmt rd rs1 s) (hw : fmt.width ≤ s.flen) :
    CompletesFBits i s rd fmt.width (s.xNat rs1 % 2 ^ fmt.width) := by
  have hv : ((s.getX rs1).setWidth fmt.width).toNat = s.xNat rs1 % 2 ^ fmt.width := BitVec.toNat_setWidth _ _
  exact hv ▸ completesFBits_of hw h

/-- Sign extension to the width of the pattern itself changes nothing. -/
theorem wrap_asSigned_self {n v : Nat} (h : v < 2 ^ n) : wrap n (asSigned n v) = v := by
  have hv : (BitVec.ofNat n v).toNat = v := by rw [BitVec.toNat_ofNat, Nat.mod_eq_of_lt h]
  rw [← hv, asSigned_toNat, ← toNat_eq_wrap_toInt]

end

end Sys2Proof.Machine
end

section
/-! PROOFS. The laws of the floating-point loads, stores, sign injections, moves and `fclass`
(spec/45_rv32f_rv64f.md, spec/46_rv32d_rv64d.md, spec/48_rv32q_rv64q_rv128q.md). -/

namespace Sys2Proof.Machine

/-- Settles O33: the three are `loadFloat` of a format behind the check of its table. -/
theorem floatLoadLaws : Obligations.FloatLoadLaws := by
  intro s rd rs1 imm
  exact ⟨row_of_funct3, row_of_funct3, row_of_funct3, floatLoadLaw_of (fmt := .s) rfl,
    floatLoadLaw_of (fmt := .d) rfl, floatLoadLaw_of (fmt := .q) rfl⟩

/-- Settles O34: the three are `storeFloat` of a format behind the check of its table. -/
theorem floatStoreLaws : Obligations.FloatStoreLaws := by
  intro s rs1 rs2 imm
  exact ⟨row_of_funct3, row_of_funct3, row_of_funct3, storeLaw_of_storeFloat (fmt := .s) rfl,
    storeLaw_of_storeFloat (fmt := .d) rfl, storeLaw_of_storeFloat (fmt := .q) rfl⟩

/-- Settles O37: each replaces the sign bit of the first operand, and the new sign is arithmetic on the top bits. -/
theorem signInjectionResults : Obligations.SignInjectionResults := by
  intro s rd rs1 rs2
  exact ⟨fun hF => completesFBits_of_sign (fmt := .s) rfl hF (Fmt.copySign_toNat _ _),
    fun hF => completesFBits_of_sign (fmt := .s) rfl hF (Fmt.copyNegatedSign_toNat _ _),
    fun hF => completesFBits_of_sign (fmt := .s) rfl hF (Fmt.xorSign_toNat _ _),
    fun hD => completesFBits_of_sign (fmt := .d) rfl hD (Fmt.copySign_toNat _ _),
    fun hD => completesFBits_of_sign (fmt := .d) rfl hD (Fmt.copyNegatedSign_toNat _ _),
    fun hD => completesFBits_of_sign (fmt := .d) rfl hD (Fmt.xorSign_toNat _ _),
    fun hQ => completesFBits_of_sign (fmt := .q) rfl hQ (Fmt.copySign_toNat _ _),
    fun hQ => completesFBits_of_sign (fmt := .q) rfl hQ (Fmt.copyNegatedSign_toNat _ _),
    fun hQ => completesFBits_of_sign (fmt := .q) rfl hQ (Fmt.xorSign_toNat _ _)⟩

/-- Settles O42: the single moves extend or cut; between registers of 64 bits the double moves copy. -/
theorem registerMoveResults : Obligations.RegisterMoveResults := by
  intro s rd rs1
  refine ⟨row_of_funct7_rs2, row_of_funct7_rs2, row_of_funct7_rs2, row_of_funct7_rs2, fun hF => ?fmvXS,
    fun hF => ?fmvSX, fun hD h64 => ?fmvXD, fun hD h64 => ?fmvDX⟩
  case fmvXS => exact completesX_of_moveToInt (fmt := .s) (requires_has hF)
  case fmvSX =>
    exact completesFBits_of_moveToFloat (fmt := .s) (requires_has hF) (State.width_le_flen (fmt := .s) hF)
  case fmvXD =>
    have hmove : CompletesX (.fmvXD rd rs1) s rd (wrap s.xlen (asSigned 64 (s.fNat rs1 % 2 ^ 64))) :=
      completesX_of_moveToInt (fmt := .d) (requires_has (s.has_rv64d.mpr ⟨hD, h64⟩))
    rwa [h64, wrap_asSigned_self (Nat.mod_lt _ (by decide))] at hmove
  case fmvDX =>
    have hmove : CompletesFBits (.fmvDX rd rs1) s rd 64 (s.xNat rs1 % 2 ^ 64) :=
      completesFBits_of_moveToFloat (fmt := .d) (requires_has (s.has_rv64d.mpr ⟨hD, h64⟩))
        (State.width_le_flen (fmt := .d) hD)
    rwa [Nat.mod_eq_of_lt (h64 ▸ s.xNat_lt rs1)] at hmove

/-- Settles O43: the three are `floatClass` of a format behind the check of its table. -/
theorem classifyResults : Obligations.ClassifyResults := by
  intro s rd rs1
  exact ⟨completesX_of_class (fmt := .s) rfl, completesX_of_class (fmt := .d) rfl,
    completesX_of_class (fmt := .q) rfl⟩

end Sys2Proof.Machine
end

section
/-! PROOFS. The rows of RV128Q, which no configuration has (spec/48_rv32q_rv64q_rv128q.md R436, R437). -/

namespace Sys2Proof.Machine

/-- R436: no table is asked for, so no configuration gives `fmv.x.q` an effect. -/
theorem exec_fmvXQ (rd rs1 : RegNum) (s : State) : exec (.fmvXQ rd rs1) s = illegal (.fmvXQ rd rs1) s := rfl

/-- R437: no table is asked for, so no configuration gives `fmv.q.x` an effect. -/
theorem exec_fmvQX (rd rs1 : RegNum) (s : State) : exec (.fmvQX rd rs1) s = illegal (.fmvQX rd rs1) s := rfl

/-- Settles O44: the rows are those of register moves, and both instructions are illegal before any check. -/
theorem rv128RowsAreIllegal : Obligations.Rv128RowsAreIllegal := by
  intro s rd rs1
  exact ⟨row_of_funct7_rs2, row_of_funct7_rs2, illegal_of (h := exec_fmvXQ rd rs1 s),
    illegal_of (h := exec_fmvQX rd rs1 s)⟩

end Sys2Proof.Machine
end

section
/-! PROOFS. The word of an instruction and its fields: cutting a word into fields and joining them are inverse, and so are
cutting an immediate into its parts and reading it back (spec/30_encoding.md R91 to R108). -/

namespace Sys2Proof

/-- A slice of a slice is a slice. -/
theorem extract_extract {w i j m n : Nat} (x : BitVec w) (h : i + n ≤ m) :
    (x.extractLsb' j m).extractLsb' i n = x.extractLsb' (j + i) n := by
  apply BitVec.eq_of_getLsbD_eq
  intro k hk
  simp only [BitVec.getLsbD_extractLsb', hk, decide_true, Bool.true_and, show i + k < m by omega, Nat.add_assoc]

theorem split_join (f : Fields) : Fields.split f.join = f := by
  simp (disch := decide) only [Fields.split, Fields.join, BitVec.extractLsb'_append_eq_of_le,
    BitVec.extractLsb'_append_eq_of_add_le]
  simp

theorem join_split (w : InstrWord) : (Fields.split w).join = w := by
  simp (disch := rfl) only [Fields.split, Fields.join, BitVec.extractLsb'_append_extractLsb'_eq_extractLsb']
  exact BitVec.extractLsb'_eq_self

section

/-! ### The parts of an immediate read back -/

variable (rs1 rs2 rd : BitVec 5) (f3 : BitVec 3) (op : BitVec 7)

theorem immI_ofI (imm : BitVec 12) : (Fields.ofI imm rs1 f3 rd op).immI = imm := by
  simp (disch := rfl) only [Fields.ofI, Fields.immI, BitVec.extractLsb'_append_extractLsb'_eq_extractLsb']
  exact BitVec.extractLsb'_eq_self

theorem immS_ofS (imm : BitVec 12) : (Fields.ofS imm rs2 rs1 f3 op).immS = imm := by
  simp (disch := rfl) only [Fields.ofS, Fields.immS, BitVec.extractLsb'_append_extractLsb'_eq_extractLsb']
  exact BitVec.extractLsb'_eq_self

theorem immU_ofU (imm : BitVec 20) : (Fields.ofU imm rd op).immU = imm := by
  simp (disch := rfl) only [Fields.ofU, Fields.immU, BitVec.extractLsb'_append_extractLsb'_eq_extractLsb']
  exact BitVec.extractLsb'_eq_self

/-- Bit 0 of an even offset, which has no place in the word. -/
theorem extract_bit0_of_even {n : Nat} {imm : BitVec n} (h : evenOffset imm = true) : 0#1 = imm.extractLsb' 0 1 := by
  apply BitVec.eq_of_getLsbD_eq
  intro k hk
  obtain rfl : k = 0 := by omega
  simpa [evenOffset] using h

theorem immB_ofB {imm : BitVec 13} (h : evenOffset imm = true) : (Fields.ofB imm rs2 rs1 f3 op).immB = imm := by
  simp (disch := decide) only [Fields.ofB, Fields.immB, BitVec.extractLsb'_append_eq_of_le,
    BitVec.extractLsb'_append_eq_of_add_le, extract_extract, extract_bit0_of_even h]
  simp (disch := rfl) only [BitVec.extractLsb'_append_extractLsb'_eq_extractLsb']
  exact BitVec.extractLsb'_eq_self

theorem immJ_ofJ {imm : BitVec 21} (h : evenOffset imm = true) : (Fields.ofJ imm rd op).immJ = imm := by
  simp (disch := decide) only [Fields.ofJ, Fields.immJ, BitVec.extractLsb'_append_eq_of_le,
    BitVec.extractLsb'_append_eq_of_add_le, extract_extract, extract_bit0_of_even h]
  simp (disch := rfl) only [BitVec.extractLsb'_append_extractLsb'_eq_extractLsb']
  exact BitVec.extractLsb'_eq_self

end

section

/-! ### The parts of a word put together again -/

variable (f : Fields)

theorem ofI_immI : Fields.ofI f.immI f.rs1 f.f3 f.rd f.op = f := by
  simp only [Fields.ofI, Fields.immI, BitVec.extractLsb'_append_eq_left, BitVec.extractLsb'_append_eq_right]

theorem ofS_immS : Fields.ofS f.immS f.rs2 f.rs1 f.f3 f.op = f := by
  simp only [Fields.ofS, Fields.immS, BitVec.extractLsb'_append_eq_left, BitVec.extractLsb'_append_eq_right]

theorem ofU_immU : Fields.ofU f.immU f.rd f.op = f := by
  simp (disch := decide) only [Fields.ofU, Fields.immU, BitVec.extractLsb'_append_eq_of_le,
    BitVec.extractLsb'_append_eq_of_add_le]
  simp

theorem ofB_immB : Fields.ofB f.immB f.rs2 f.rs1 f.f3 f.op = f := by
  simp (disch := decide) only [Fields.ofB, Fields.immB, BitVec.extractLsb'_append_eq_of_le,
    BitVec.extractLsb'_append_eq_of_add_le, extract_extract]
  simp (disch := rfl) only [BitVec.extractLsb'_append_extractLsb'_eq_extractLsb']
  simp

theorem ofJ_immJ : Fields.ofJ f.immJ f.rd f.op = f := by
  simp (disch := decide) only [Fields.ofJ, Fields.immJ, BitVec.extractLsb'_append_eq_of_le,
    BitVec.extractLsb'_append_eq_of_add_le, extract_extract]
  simp (disch := rfl) only [BitVec.extractLsb'_append_extractLsb'_eq_extractLsb']
  simp

theorem evenOffset_immB : evenOffset f.immB = true := by
  rw [evenOffset, Fields.immB, BitVec.getLsbD_append]; rfl

theorem evenOffset_immJ : evenOffset f.immJ = true := by
  rw [evenOffset, Fields.immJ, BitVec.getLsbD_append]; rfl

/-! The immediate shifts and `fence` cut the I-immediate in their own way. -/

theorem funct7_eq_immI : f.f7 = f.immI.extractLsb' 5 7 := BitVec.extractLsb'_append_eq_left.symm

theorem rs2_eq_immI : f.rs2 = f.immI.extractLsb' 0 5 := BitVec.extractLsb'_append_eq_right.symm

theorem f6_eq_immI : f.f6 = f.immI.extractLsb' 6 6 := by
  rw [Fields.f6, funct7_eq_immI, extract_extract _ (by decide)]

theorem shamt6_eq_immI : f.shamt6 = f.immI.extractLsb' 0 6 := by
  rw [Fields.shamt6, funct7_eq_immI, rs2_eq_immI, extract_extract _ (by decide)]
  exact BitVec.extractLsb'_append_extractLsb'_eq_extractLsb' rfl

theorem fm_eq_immI : f.fm = f.immI.extractLsb' 8 4 := by
  rw [Fields.fm, funct7_eq_immI, extract_extract _ (by decide)]

theorem pred_eq_immI : f.pred = f.immI.extractLsb' 4 4 := by
  rw [Fields.pred, funct7_eq_immI, rs2_eq_immI, extract_extract _ (by decide), extract_extract _ (by decide)]
  exact BitVec.extractLsb'_append_extractLsb'_eq_extractLsb' rfl

theorem succ_eq_immI : f.succ = f.immI.extractLsb' 0 4 := by
  rw [Fields.succ, rs2_eq_immI, extract_extract _ (by decide)]

theorem f6_append_shamt6 : f.f6 ++ f.shamt6 = f.immI := by
  simp (disch := rfl) only [f6_eq_immI, shamt6_eq_immI, BitVec.extractLsb'_append_extractLsb'_eq_extractLsb']
  exact BitVec.extractLsb'_eq_self

theorem fm_append_pred_append_succ : f.fm ++ f.pred ++ f.succ = f.immI := by
  simp (disch := rfl) only [fm_eq_immI, pred_eq_immI, succ_eq_immI,
    BitVec.extractLsb'_append_extractLsb'_eq_extractLsb']
  exact BitVec.extractLsb'_eq_self

/-! The atomics and the fused operations cut `funct7`. -/

theorem ofBool_getLsbD {n : Nat} (x : BitVec n) (k : Nat) : BitVec.ofBool (x.getLsbD k) = x.extractLsb' k 1 := by
  apply BitVec.eq_of_getLsbD_eq
  intro j hj
  obtain rfl : j = 0 := by omega
  simp

theorem f5_append_aq_append_rl : f.f5 ++ BitVec.ofBool f.aq ++ BitVec.ofBool f.rl = f.f7 := by
  simp (disch := rfl) only [Fields.f5, Fields.aq, Fields.rl, ofBool_getLsbD,
    BitVec.extractLsb'_append_extractLsb'_eq_extractLsb']
  exact BitVec.extractLsb'_eq_self

theorem rs3_append_fmt : f.rs3 ++ f.fmt = f.f7 := by
  simp (disch := rfl) only [Fields.rs3, Fields.fmt, BitVec.extractLsb'_append_extractLsb'_eq_extractLsb']
  exact BitVec.extractLsb'_eq_self

end

section

/-! ### The fields of an instruction word that holds more than one operand in `funct7` or the I-immediate -/

variable (rs1 rs2 rd : BitVec 5) (f3 : BitVec 3) (op : BitVec 7)

theorem f6_ofI (f6 shamt : BitVec 6) : (Fields.ofI (f6 ++ shamt) rs1 f3 rd op).f6 = f6 := by
  rw [f6_eq_immI, immI_ofI, BitVec.extractLsb'_append_eq_left]

theorem shamt6_ofI (f6 shamt : BitVec 6) : (Fields.ofI (f6 ++ shamt) rs1 f3 rd op).shamt6 = shamt := by
  rw [shamt6_eq_immI, immI_ofI, BitVec.extractLsb'_append_eq_right]

theorem fm_ofI (fm pred succ : BitVec 4) : (Fields.ofI (fm ++ pred ++ succ) rs1 f3 rd op).fm = fm := by
  rw [fm_eq_immI, immI_ofI, BitVec.extractLsb'_append_eq_of_le (by decide), BitVec.extractLsb'_append_eq_left]

theorem pred_ofI (fm pred succ : BitVec 4) : (Fields.ofI (fm ++ pred ++ succ) rs1 f3 rd op).pred = pred := by
  rw [pred_eq_immI, immI_ofI, BitVec.extractLsb'_append_eq_of_le (by decide), BitVec.extractLsb'_append_eq_right]

theorem succ_ofI (fm pred succ : BitVec 4) : (Fields.ofI (fm ++ pred ++ succ) rs1 f3 rd op).succ = succ := by
  rw [succ_eq_immI, immI_ofI, BitVec.extractLsb'_append_eq_right]

theorem f5_amo (f5 : BitVec 5) (aq rl : Bool) :
    Fields.f5 ⟨f5 ++ BitVec.ofBool aq ++ BitVec.ofBool rl, rs2, rs1, f3, rd, op⟩ = f5 := by
  rw [Fields.f5, BitVec.extractLsb'_append_eq_of_le (by decide), BitVec.extractLsb'_append_eq_left]

theorem aq_amo (f5 : BitVec 5) (aq rl : Bool) :
    Fields.aq ⟨f5 ++ BitVec.ofBool aq ++ BitVec.ofBool rl, rs2, rs1, f3, rd, op⟩ = aq := by
  simp only [Fields.aq, BitVec.getLsbD_append]; simp

theorem rl_amo (f5 : BitVec 5) (aq rl : Bool) :
    Fields.rl ⟨f5 ++ BitVec.ofBool aq ++ BitVec.ofBool rl, rs2, rs1, f3, rd, op⟩ = rl := by
  simp only [Fields.rl, BitVec.getLsbD_append]; simp

theorem rs3_fused (rs3 : BitVec 5) (fmt : BitVec 2) : Fields.rs3 ⟨rs3 ++ fmt, rs2, rs1, f3, rd, op⟩ = rs3 :=
  BitVec.extractLsb'_append_eq_left

theorem fmt_fused (rs3 : BitVec 5) (fmt : BitVec 2) : Fields.fmt ⟨rs3 ++ fmt, rs2, rs1, f3, rd, op⟩ = fmt :=
  BitVec.extractLsb'_append_eq_right

end

end Sys2Proof
end

section
/-! PROOFS. The decoder reads from the word of a well-formed instruction that instruction. -/

namespace Sys2Proof

/-- `csrrw` of a CSR that has no row of its own is read as written. -/
theorem decodeCsrrw_of_plain {f : Fields} (h : csrWriteRows.contains f.immI = false) :
    decodeCsrrw f = .csrrw f.rd f.immI f.rs1 := by
  unfold decodeCsrrw
  split
  case h_4 => rfl
  all_goals next himm => rw [himm] at h; exact absurd h (by decide)

/-- `csrrwi` of a CSR that has no row of its own is read as written. -/
theorem decodeCsrrwi_of_plain {f : Fields} (h : csrWriteImmRows.contains f.immI = false) :
    decodeCsrrwi f = .csrrwi f.rd f.immI f.rs1 := by
  unfold decodeCsrrwi
  split
  case h_3 => rfl
  all_goals next himm => rw [himm] at h; exact absurd h (by decide)

/-- `csrrs` that sets bits, or of a CSR that has no row of its own, is read as written. -/
theorem decodeCsrrs_of_plain {f : Fields} (h : (f.rs1 == 0 && csrReadRows.contains f.immI) = false) :
    decodeCsrrs f = .csrrs f.rd f.immI f.rs1 := by
  unfold decodeCsrrs
  split
  case isFalse => rfl
  case isTrue hrs1 =>
    rw [hrs1, beq_self_eq_true, Bool.true_and] at h
    split
    case h_10 => rfl
    all_goals next himm => rw [himm] at h; exact absurd h (by decide)

/-- The decoder is the left inverse of the fields of an instruction. In most cases both sides compute to the same; what is
left are the operands that `fieldsOf` cuts into several fields. -/
theorem decodeFields_fieldsOf {i : Instr} (h : i.wellFormed = true) : decodeFields (fieldsOf i) = .ok i := by
  cases i
  case lui rd imm | auipc rd imm => exact congrArg _ (congrArg _ (immU_ofU rd _ imm))
  case jal rd imm => exact congrArg _ (congrArg _ (immJ_ofJ rd _ h))
  case beq rs1 rs2 imm | bne rs1 rs2 imm | blt rs1 rs2 imm | bge rs1 rs2 imm | bltu rs1 rs2 imm | bgeu rs1 rs2 imm =>
    exact congrArg _ (congrArg _ (immB_ofB rs1 rs2 _ _ h))
  case jalr rd rs1 imm | lb rd rs1 imm | lh rd rs1 imm | lw rd rs1 imm | lbu rd rs1 imm | lhu rd rs1 imm
      | lwu rd rs1 imm | ld rd rs1 imm | flw rd rs1 imm | fld rd rs1 imm | flq rd rs1 imm | addi rd rs1 imm
      | slti rd rs1 imm | sltiu rd rs1 imm | xori rd rs1 imm | ori rd rs1 imm | andi rd rs1 imm | addiw rd rs1 imm =>
    exact congrArg _ (congrArg _ (immI_ofI rs1 rd _ _ imm))
  case csrrc rd csr rs1 | csrrsi rd csr rs1 | csrrci rd csr rs1 =>
    exact congrArg _ (congrFun (congrArg _ (immI_ofI rs1 rd _ _ csr)) _)
  case fenceI imm rs1 rd => exact congrArg (fun v => Except.ok (Instr.fenceI v rs1 rd)) (immI_ofI rs1 rd _ _ imm)
  case sb rs1 rs2 imm | sh rs1 rs2 imm | sw rs1 rs2 imm | sd rs1 rs2 imm | fsw rs1 rs2 imm | fsd rs1 rs2 imm
      | fsq rs1 rs2 imm =>
    exact congrArg _ (congrArg _ (immS_ofS rs1 rs2 _ _ imm))
  case slli | srli | srai =>
    simp only [fieldsOf, decodeFields, decodeOpImm, f6_ofI, shamt6_ofI]
    rfl
  case fence =>
    simp only [fieldsOf, decodeFields, decodeMiscMem, fm_ofI, pred_ofI, succ_ofI]
    rfl
  case lrW | lrD =>
    change decodeAmo _ = _
    simp only [fieldsOf, decodeAmo, f5_amo, aq_amo, rl_amo]
    rfl
  case scW | scD | amoswapW | amoswapD | amoaddW | amoaddD | amoxorW | amoxorD | amoorW | amoorD | amoandW | amoandD
      | amominW | amominD | amomaxW | amomaxD | amominuW | amominuD | amomaxuW | amomaxuD =>
    change decodeAmo _ = _
    simp only [fieldsOf, decodeAmo, f5_amo, aq_amo, rl_amo]
  case fmaddS | fmaddD | fmaddQ => simp only [fieldsOf, decodeFields, decodeMadd, fmt_fused, rs3_fused]
  case fmsubS | fmsubD | fmsubQ => simp only [fieldsOf, decodeFields, decodeMsub, fmt_fused, rs3_fused]
  case fnmsubS | fnmsubD | fnmsubQ => simp only [fieldsOf, decodeFields, decodeNmsub, fmt_fused, rs3_fused]
  case fnmaddS | fnmaddD | fnmaddQ => simp only [fieldsOf, decodeFields, decodeNmadd, fmt_fused, rs3_fused]
  case csrrw rd csr rs1 =>
    have hcsr := immI_ofI rs1 rd 0b001#3 0b1110011#7 csr
    have hplain := decodeCsrrw_of_plain (f := fieldsOf (.csrrw rd csr rs1)) (by
      rw [fieldsOf, hcsr]; exact Bool.not_eq_true' _ ▸ h)
    exact congrArg _ (hplain.trans (congrFun (congrArg _ hcsr) _))
  case csrrwi rd csr rs1 =>
    have hcsr := immI_ofI rs1 rd 0b101#3 0b1110011#7 csr
    have hplain := decodeCsrrwi_of_plain (f := fieldsOf (.csrrwi rd csr rs1)) (by
      rw [fieldsOf, hcsr]; exact Bool.not_eq_true' _ ▸ h)
    exact congrArg _ (hplain.trans (congrFun (congrArg _ hcsr) _))
  case csrrs rd csr rs1 =>
    have hcsr := immI_ofI rs1 rd 0b010#3 0b1110011#7 csr
    have hplain := decodeCsrrs_of_plain (f := fieldsOf (.csrrs rd csr rs1)) (by
      rw [fieldsOf, hcsr]; exact Bool.not_eq_true' _ ▸ h)
    exact congrArg _ (hplain.trans (congrFun (congrArg _ hcsr) _))
  case rdcycle | rdtime | rdinstret | rdcycleh | rdtimeh | rdinstreth | frcsr | frrm | frflags =>
    simp only [fieldsOf, decodeFields, decodeSystem, decodeCsrrs, immI_ofI]
    rfl
  case fscsr | fsrm | fsflags =>
    simp only [fieldsOf, decodeFields, decodeSystem, decodeCsrrw, immI_ofI]
    rfl
  case fsrmi | fsflagsi =>
    simp only [fieldsOf, decodeFields, decodeSystem, decodeCsrrwi, immI_ofI]
    rfl
  case sfenceVm =>
    simp only [fieldsOf, decodeFields, decodeSystem, decodePriv, immI_ofI]
    rfl
  all_goals rfl

/-- Settles O1: the fields of the word are those of the instruction, and the decoder reads them back. -/
theorem decodeInvertsEncode : Obligations.DecodeInvertsEncode := by
  intro i h
  rw [decode, encode, split_join, decodeFields_fieldsOf h]

end Sys2Proof
end

section
/-! PROOFS. A word that decodes is the word of the instruction: one lemma for each major opcode, and then the opcode map
(spec/30_encoding.md R110). -/

namespace Sys2Proof

/-- The instruction is well formed and its word has these fields. -/
def Encodes (f : Fields) (i : Instr) : Prop := fieldsOf i = f ∧ i.wellFormed = true

variable {f : Fields} {i : Instr} {op : BitVec 7} {f3 : BitVec 3}

section

/-! ### One lemma for each format -/

theorem encodes_of_I (h3 : f.f3 = f3) (hop : f.op = op) (hi : fieldsOf i = .ofI f.immI f.rs1 f3 f.rd op := by rfl)
    (hw : i.wellFormed = true := by rfl) : Encodes f i :=
  ⟨by rw [hi, ← h3, ← hop, ofI_immI], hw⟩

theorem encodes_of_S (h3 : f.f3 = f3) (hop : f.op = op) (hi : fieldsOf i = .ofS f.immS f.rs2 f.rs1 f3 op := by rfl)
    (hw : i.wellFormed = true := by rfl) : Encodes f i :=
  ⟨by rw [hi, ← h3, ← hop, ofS_immS], hw⟩

theorem encodes_of_B (h3 : f.f3 = f3) (hop : f.op = op) (hi : fieldsOf i = .ofB f.immB f.rs2 f.rs1 f3 op := by rfl)
    (hw : i.wellFormed = evenOffset f.immB := by rfl) : Encodes f i :=
  ⟨by rw [hi, ← h3, ← hop, ofB_immB], hw.trans (evenOffset_immB f)⟩

theorem encodes_of_U (hop : f.op = op) (hi : fieldsOf i = .ofU f.immU f.rd op := by rfl)
    (hw : i.wellFormed = true := by rfl) : Encodes f i :=
  ⟨by rw [hi, ← hop, ofU_immU], hw⟩

theorem encodes_of_J (hop : f.op = op) (hi : fieldsOf i = .ofJ f.immJ f.rd op := by rfl)
    (hw : i.wellFormed = evenOffset f.immJ := by rfl) : Encodes f i :=
  ⟨by rw [hi, ← hop, ofJ_immJ], hw.trans (evenOffset_immJ f)⟩

/-- The formats whose operands are whole fields. -/
theorem encodes_of_fields {f7 : BitVec 7} {rs2 : BitVec 5} (h7 : f7 = f.f7) (h2 : rs2 = f.rs2) (h3 : f3 = f.f3)
    (hop : f.op = op) (hi : fieldsOf i = ⟨f7, rs2, f.rs1, f3, f.rd, op⟩ := by rfl)
    (hw : i.wellFormed = true := by rfl) : Encodes f i :=
  ⟨by rw [hi, h7, h2, h3, ← hop], hw⟩

end

section

/-! ### One lemma for each major opcode -/

theorem decodeLoad_encodes (hop : f.op = 0b0000011#7) (h : decodeLoad f = .ok i) : Encodes f i := by
  unfold decodeLoad at h
  split at h
  case h_8 => cases h
  all_goals next h3 => cases h; exact encodes_of_I h3 hop

theorem decodeLoadFp_encodes (hop : f.op = 0b0000111#7) (h : decodeLoadFp f = .ok i) : Encodes f i := by
  unfold decodeLoadFp at h
  split at h
  case h_4 => cases h
  all_goals next h3 => cases h; exact encodes_of_I h3 hop

theorem decodeStore_encodes (hop : f.op = 0b0100011#7) (h : decodeStore f = .ok i) : Encodes f i := by
  unfold decodeStore at h
  split at h
  case h_5 => cases h
  all_goals next h3 => cases h; exact encodes_of_S h3 hop

theorem decodeStoreFp_encodes (hop : f.op = 0b0100111#7) (h : decodeStoreFp f = .ok i) : Encodes f i := by
  unfold decodeStoreFp at h
  split at h
  case h_4 => cases h
  all_goals next h3 => cases h; exact encodes_of_S h3 hop

theorem decodeBranch_encodes (hop : f.op = 0b1100011#7) (h : decodeBranch f = .ok i) : Encodes f i := by
  unfold decodeBranch at h
  split at h
  case h_7 => cases h
  all_goals next h3 => cases h; exact encodes_of_B h3 hop

theorem decodeJalr_encodes (hop : f.op = 0b1100111#7) (h : decodeJalr f = .ok i) : Encodes f i := by
  unfold decodeJalr at h
  split at h
  case h_2 => cases h
  all_goals next h3 => cases h; exact encodes_of_I h3 hop

theorem decodeMiscMem_encodes (hop : f.op = 0b0001111#7) (h : decodeMiscMem f = .ok i) : Encodes f i := by
  unfold decodeMiscMem at h
  split at h
  case h_1 h3 => cases h; exact encodes_of_I h3 hop (by rw [← fm_append_pred_append_succ]; rfl)
  case h_2 h3 => cases h; exact encodes_of_I h3 hop
  case h_3 => cases h

theorem decodeOpImm_encodes (hop : f.op = 0b0010011#7) (h : decodeOpImm f = .ok i) : Encodes f i := by
  unfold decodeOpImm at h
  split at h
  case h_7 h3 =>
    split at h
    · next h6 => cases h; exact encodes_of_I h3 hop (by rw [← f6_append_shamt6, h6]; rfl)
    · cases h
  case h_8 h3 =>
    split at h
    · next h6 => cases h; exact encodes_of_I h3 hop (by rw [← f6_append_shamt6, h6]; rfl)
    · next h6 => cases h; exact encodes_of_I h3 hop (by rw [← f6_append_shamt6, h6]; rfl)
    · cases h
  all_goals next h3 => cases h; exact encodes_of_I h3 hop

theorem decodeOpImm32_encodes (hop : f.op = 0b0011011#7) (h : decodeOpImm32 f = .ok i) : Encodes f i := by
  unfold decodeOpImm32 at h
  split at h
  case h_1 h3 => cases h; exact encodes_of_I h3 hop
  case h_2 h3 =>
    split at h
    · next h7 => cases h; exact encodes_of_fields h7.symm rfl h3.symm hop
    · cases h
  case h_3 h3 =>
    split at h
    · next h7 => cases h; exact encodes_of_fields h7.symm rfl h3.symm hop
    · next h7 => cases h; exact encodes_of_fields h7.symm rfl h3.symm hop
    · cases h
  case h_4 => cases h

theorem decodeOp_encodes (hop : f.op = 0b0110011#7) (h : decodeOp f = .ok i) : Encodes f i := by
  unfold decodeOp at h
  split at h
  case h_19 => cases h
  all_goals next h7 h3 => cases h; exact encodes_of_fields h7.symm rfl h3.symm hop

theorem decodeOp32_encodes (hop : f.op = 0b0111011#7) (h : decodeOp32 f = .ok i) : Encodes f i := by
  unfold decodeOp32 at h
  split at h
  case h_11 => cases h
  all_goals next h7 h3 => cases h; exact encodes_of_fields h7.symm rfl h3.symm hop

theorem decodeAmo_encodes (hop : f.op = 0b0101111#7) (h : decodeAmo f = .ok i) : Encodes f i := by
  unfold decodeAmo at h
  split at h
  case h_23 => cases h
  case h_1 h5 h3 | h_12 h5 h3 =>
    split at h
    · next h2 => cases h; exact encodes_of_fields (h5 ▸ f5_append_aq_append_rl f) h2.symm h3.symm hop
    · cases h
  all_goals next h5 h3 => cases h; exact encodes_of_fields (h5 ▸ f5_append_aq_append_rl f) rfl h3.symm hop

theorem decodeMadd_encodes (hop : f.op = 0b1000011#7) (h : decodeMadd f = .ok i) : Encodes f i := by
  unfold decodeMadd at h
  split at h
  case h_4 => cases h
  all_goals next hfmt => cases h; exact encodes_of_fields (hfmt ▸ rs3_append_fmt f) rfl rfl hop

theorem decodeMsub_encodes (hop : f.op = 0b1000111#7) (h : decodeMsub f = .ok i) : Encodes f i := by
  unfold decodeMsub at h
  split at h
  case h_4 => cases h
  all_goals next hfmt => cases h; exact encodes_of_fields (hfmt ▸ rs3_append_fmt f) rfl rfl hop

theorem decodeNmsub_encodes (hop : f.op = 0b1001011#7) (h : decodeNmsub f = .ok i) : Encodes f i := by
  unfold decodeNmsub at h
  split at h
  case h_4 => cases h
  all_goals next hfmt => cases h; exact encodes_of_fields (hfmt ▸ rs3_append_fmt f) rfl rfl hop

theorem decodeNmadd_encodes (hop : f.op = 0b1001111#7) (h : decodeNmadd f = .ok i) : Encodes f i := by
  unfold decodeNmadd at h
  split at h
  case h_4 => cases h
  all_goals next hfmt => cases h; exact encodes_of_fields (hfmt ▸ rs3_append_fmt f) rfl rfl hop

/-- By `funct7`: the row is fixed, or it is told by `funct3`, by `rs2`, or by both. -/
theorem decodeOpFp_encodes (hop : f.op = 0b1010011#7) (h : decodeOpFp f = .ok i) : Encodes f i := by
  unfold decodeOpFp at h
  split at h
  case h_1 h7 | h_2 h7 | h_3 h7 | h_4 h7 | h_13 h7 | h_14 h7 | h_15 h7 | h_16 h7 | h_27 h7 | h_28 h7
      | h_29 h7 | h_30 h7 =>
    cases h; exact encodes_of_fields h7.symm rfl rfl hop
  case h_5 h7 | h_6 h7 | h_8 h7 | h_17 h7 | h_18 h7 | h_22 h7 | h_31 h7 | h_32 h7 | h_35 h7 =>
    split at h <;> cases h
    all_goals next h3 => exact encodes_of_fields h7.symm rfl h3.symm hop
  case h_7 h7 | h_9 h7 | h_10 h7 | h_19 h7 | h_20 h7 | h_21 h7 | h_23 h7 | h_24 h7 | h_33 h7 | h_34 h7
      | h_36 h7 | h_37 h7 =>
    split at h <;> cases h
    all_goals next h2 => exact encodes_of_fields h7.symm h2.symm rfl hop
  case h_11 h7 | h_12 h7 | h_25 h7 | h_26 h7 | h_38 h7 | h_39 h7 =>
    split at h <;> cases h
    all_goals next h2 h3 => exact encodes_of_fields h7.symm h2.symm h3.symm hop
  case h_40 => cases h

theorem decodePriv_encodes (h3 : f.f3 = 0b000#3) (hop : f.op = 0b1110011#7) (h : decodePriv f = .ok i) :
    Encodes f i := by
  unfold decodePriv at h
  split at h
  case isFalse => cases h
  case isTrue hrd =>
    split at h
    case isTrue himm => cases h; exact encodes_of_I h3 hop (by rw [himm, hrd]; rfl)
    case isFalse =>
      split at h
      case isFalse => cases h
      case isTrue hrs1 =>
        split at h
        case h_9 => cases h
        all_goals next himm => cases h; exact encodes_of_I h3 hop (by rw [himm, hrs1, hrd]; rfl)

theorem decodeCsrrw_encodes (h3 : f.f3 = 0b001#3) (hop : f.op = 0b1110011#7) : Encodes f (decodeCsrrw f) := by
  unfold decodeCsrrw
  split
  case h_4 h1 h2 h3' =>
    exact encodes_of_I h3 hop (hw := by simpa [Instr.wellFormed, csrWriteRows] using ⟨h3', h2, h1⟩)
  all_goals next himm => exact encodes_of_I h3 hop (by rw [himm]; rfl)

theorem decodeCsrrs_encodes (h3 : f.f3 = 0b010#3) (hop : f.op = 0b1110011#7) : Encodes f (decodeCsrrs f) := by
  unfold decodeCsrrs
  split
  case isFalse hrs1 => exact encodes_of_I h3 hop (hw := by rw [Instr.wellFormed, beq_eq_false_iff_ne.mpr hrs1]; rfl)
  case isTrue hrs1 =>
    split
    case h_10 => exact encodes_of_I h3 hop (hw := by simp_all [Instr.wellFormed, csrReadRows])
    all_goals next himm => exact encodes_of_I h3 hop (by rw [himm, hrs1]; rfl)

theorem decodeCsrrwi_encodes (h3 : f.f3 = 0b101#3) (hop : f.op = 0b1110011#7) : Encodes f (decodeCsrrwi f) := by
  unfold decodeCsrrwi
  split
  case h_3 h1 h2 =>
    exact encodes_of_I h3 hop (hw := by simpa [Instr.wellFormed, csrWriteImmRows] using ⟨h2, h1⟩)
  all_goals next himm => exact encodes_of_I h3 hop (by rw [himm]; rfl)

theorem decodeSystem_encodes (hop : f.op = 0b1110011#7) (h : decodeSystem f = .ok i) : Encodes f i := by
  unfold decodeSystem at h
  split at h
  case h_1 h3 => exact decodePriv_encodes h3 hop h
  case h_2 h3 => cases h; exact decodeCsrrw_encodes h3 hop
  case h_3 h3 => cases h; exact decodeCsrrs_encodes h3 hop
  case h_5 h3 => cases h; exact decodeCsrrwi_encodes h3 hop
  case h_4 h3 | h_6 h3 | h_7 h3 => cases h; exact encodes_of_I h3 hop
  case h_8 => cases h

end

/-- The opcode map. -/
theorem decodeFields_encodes (h : decodeFields f = .ok i) : Encodes f i := by
  unfold decodeFields at h
  split at h
  case h_1 hop => exact decodeLoad_encodes hop h
  case h_2 hop => exact decodeLoadFp_encodes hop h
  case h_3 hop => exact decodeMiscMem_encodes hop h
  case h_4 hop => exact decodeOpImm_encodes hop h
  case h_5 hop | h_11 hop => cases h; exact encodes_of_U hop
  case h_6 hop => exact decodeOpImm32_encodes hop h
  case h_7 hop => exact decodeStore_encodes hop h
  case h_8 hop => exact decodeStoreFp_encodes hop h
  case h_9 hop => exact decodeAmo_encodes hop h
  case h_10 hop => exact decodeOp_encodes hop h
  case h_12 hop => exact decodeOp32_encodes hop h
  case h_13 hop => exact decodeMadd_encodes hop h
  case h_14 hop => exact decodeMsub_encodes hop h
  case h_15 hop => exact decodeNmsub_encodes hop h
  case h_16 hop => exact decodeNmadd_encodes hop h
  case h_17 hop => exact decodeOpFp_encodes hop h
  case h_18 hop => exact decodeBranch_encodes hop h
  case h_19 hop => exact decodeJalr_encodes hop h
  case h_20 hop => cases h; exact encodes_of_J hop
  case h_21 hop => exact decodeSystem_encodes hop h
  case h_22 => split at h <;> cases h

/-- Settles O2: the fields of the instruction are those that the word was cut into. -/
theorem encodeInvertsDecode : Obligations.EncodeInvertsDecode := by
  intro w i h
  obtain ⟨hfields, hwf⟩ := decodeFields_encodes h
  exact ⟨by rw [encode, hfields, join_split], hwf⟩

end Sys2Proof
end

section
/-! PROOFS. What an instruction can do, said once: it ends in a next state that its updates lead to, or it raises, or it is
refused. The updates an instruction may make are those that the tables of Safety.lean give it. -/

namespace Sys2Proof.Machine

/-- The states that updates which the tables allow `i` lead to from `s`, before `pc` is assigned. -/
inductive Effect (i : Instr) (s : State) : State → Prop
  | refl : Effect i s s
  | drawn {u : State} (h : Effect i s u) : Effect i s u.drawn
  | accrue {u : State} (h : Effect i s u) (flags : FlagSet) : Effect i s (u.accrue flags)
  | setX {u : State} (h : Effect i s u) {rd : RegNum} (hrd : i.xDest = some rd) {n : Nat} (v : BitVec n) :
      Effect i s (u.setX rd v)
  | writeF {u : State} (h : Effect i s u) {rd : RegNum} (hrd : i.fDest = some rd) {w : Nat} (v : BitVec w) :
      Effect i s (u.writeF rd v)
  | writeBytes {u : State} (h : Effect i s u) {a : BitVec s.xlen} {count : Nat}
      (hst : i.storesTo s = some (a.toNat, count)) {w : Nat} (v : BitVec w) : Effect i s (u.writeBytes a v count)
  | reserve {u : State} (h : Effect i s u) (hlr : i.writesReservation = true) (a : BitVec s.xlen) :
      Effect i s (u.reserve a)
  | clearReservation {u : State} (h : Effect i s u) (hlr : i.writesReservation = true) : Effect i s u.clearReservation
  | csrWrite {u : State} (h : Effect i s u) (hcsr : i.isCsr = true) (c : Csr) {n : Nat} (v : BitVec n) :
      Effect i s (u.csrWrite c v)
  | forget {u : State} (h : Effect i s u) (hi : ∃ imm rs1 rd, i = .fenceI imm rs1 rd) : Effect i s { u with dirty := [] }

/-- The next states of `i`: after its updates, `pc` is the next in sequence or an aligned target. -/
inductive Ends (i : Instr) (s : State) : State → Prop
  | advance {u : State} (h : Effect i s u) : Ends i s u.advance
  | jump {u : State} (h : Effect i s u) {a : BitVec s.xlen} (ha : a.toNat % 4 = 0) : Ends i s (u.setPc a)

/-- The answers that `i` may give. -/
inductive Answers (i : Instr) (s : State) : Result → Prop
  | next {t : State} (h : Ends i s t) : Answers i s (.next t)
  | illegal : Answers i s (illegal i s)
  | raise {e : Exception} (he : e ≠ .illegalInstruction) {n : Nat} (info : BitVec n) : Answers i s (raise e info s)
  | refused (r : Refusal) : Answers i s (.refused r)

variable {i : Instr} {s u : State} {rd rs1 rs2 : RegNum} {bytes : Nat} {imm : BitVec 12}

section

/-! ### Checks -/

theorem Answers.requires {tab : InstrTable} {k : Result} (h : Answers i s k) : Answers i s (requires tab i s k) := by
  unfold Machine.requires
  split
  · exact h
  · exact .illegal

theorem Answers.checked {acc : Access} {n : Nat} {a : BitVec n} {k : Result} (h : Answers i s k) :
    Answers i s (checked acc bytes a s k) := by
  unfold Machine.checked
  split
  · exact .raise (by cases acc <;> decide) a
  · split
    · exact .raise (by cases acc <;> decide) a
    · exact h

/-- A read goes on from the state itself or after a draw. -/
theorem Answers.readBytes {n : Nat} {a : BitVec n} {k : BitVec (8 * bytes) → State → Result}
    (h : ∀ v u, Effect i s u → Answers i s (k v u)) : Answers i s (readBytes a bytes s k) := by
  unfold Machine.readBytes
  dsimp only
  split
  · exact h _ _ .refl
  · split
    · exact .refused _
    · exact h _ _ (.drawn .refl)

theorem Answers.withShamt {shamt : BitVec 6} {k : Nat → Result} (h : ∀ n, Answers i s (k n)) :
    Answers i s (withShamt i shamt s k) := by
  unfold Machine.withShamt
  split
  · exact h _
  · exact .illegal

theorem Answers.withMode {rm : BitVec 3} {k : RoundMode → Result} (h : ∀ mode, Answers i s (k mode)) :
    Answers i s (withMode i rm s k) := by
  unfold Machine.withMode
  split
  · exact h _
  · exact .illegal

end

section

/-! ### Integer results, jumps and branches -/

theorem Answers.writeReg (hrd : i.xDest = some rd) (hu : Effect i s u) {n : Nat} (v : BitVec n) :
    Answers i s (writeReg rd v u) := .next (.advance (hu.setX hrd v))

theorem Answers.jumpTo {a : BitVec s.xlen} {effect : State → State} (h : Effect i s (effect s)) :
    Answers i s (jumpTo a s effect) := by
  unfold Machine.jumpTo
  split
  · exact .raise (by decide) a
  · next ha => exact .next (.jump h (not_not.mp ha))

/-- A jump that writes the link to `x[rd]`. -/
theorem Answers.link (hrd : i.xDest = some rd) {a : BitVec s.xlen} :
    Answers i s (Machine.jumpTo a s (·.setX rd s.nextPc)) :=
  .jumpTo (effect := (·.setX rd s.nextPc)) (.setX .refl hrd _)

theorem Answers.branch (taken : Bool) (imm : BitVec 13) : Answers i s (branch taken imm s) := by
  unfold Machine.branch
  split
  · exact .jumpTo .refl
  · exact .next (.advance .refl)

end

section

/-! ### Loads, stores and atomics -/

theorem Answers.load {signed : Bool} (hrd : i.xDest = some rd) : Answers i s (load bytes signed rd rs1 imm s) := by
  refine .checked (.readBytes fun v u hu => ?_)
  split
  · exact .writeReg hrd hu _
  · exact .writeReg hrd hu _

theorem Answers.store (hst : i.storesTo s = some (s.addrNat rs1 imm, bytes)) :
    Answers i s (store bytes rs1 rs2 imm s) :=
  .checked (.next (.advance (.writeBytes .refl hst _)))

theorem Answers.loadFloat {fmt : Fmt} (hrd : i.fDest = some rd) : Answers i s (loadFloat fmt rd rs1 imm s) :=
  .checked (.readBytes fun v _ hu => .next (.advance (hu.writeF hrd v)))

theorem Answers.storeFloat {fmt : Fmt} (hst : i.storesTo s = some (s.addrNat rs1 imm, fmt.width / 8)) :
    Answers i s (storeFloat fmt rs1 rs2 imm s) :=
  .checked (.next (.advance (.writeBytes .refl hst _)))

theorem Answers.loadReserved (hrd : i.xDest = some rd) (hlr : i.writesReservation = true) :
    Answers i s (loadReserved bytes rd rs1 s) :=
  .checked (.readBytes fun _ _ hu => .writeReg hrd (hu.reserve hlr _) _)

theorem Answers.storeConditional (hrd : i.xDest = some rd) (hlr : i.writesReservation = true)
    (hst : i.storesTo s = some (s.xNat rs1, bytes)) : Answers i s (storeConditional bytes rd rs1 rs2 s) := by
  refine .checked ?_
  split
  · split
    · exact .writeReg hrd (.clearReservation (.writeBytes (.drawn .refl) hst _) hlr) _
    · exact .writeReg hrd (.clearReservation (.drawn .refl) hlr) _
  · exact .writeReg hrd (.clearReservation .refl hlr) _

theorem Answers.amo {op : BitVec (8 * bytes) → BitVec (8 * bytes) → BitVec (8 * bytes)} (hrd : i.xDest = some rd)
    (hst : i.storesTo s = some (s.xNat rs1, bytes)) : Answers i s (amo bytes op rd rs1 rs2 s) :=
  .checked (.readBytes fun _ _ hu => .writeReg hrd (hu.writeBytes hst _) _)

end

section

/-! ### Control and status registers -/

theorem Effect.csrRead (h : Effect i s u) (c : Csr) : Effect i s (u.csrRead c) := by
  unfold State.csrRead
  split
  · exact h.drawn
  · exact h

theorem Answers.csrAccess {addr : BitVec 12} {reads : Bool} {write : Option (BitVec s.xlen → BitVec s.xlen)}
    (hcsr : i.isCsr = true) (hrd : i.xDest = some rd) : Answers i s (csrAccess i rd addr reads s write) := by
  unfold Machine.csrAccess
  split
  · exact .illegal
  · next c _ =>
    split
    · exact .illegal
    · have hread : Effect i s (s.csrRead c) := .csrRead .refl c
      cases write with
      | none =>
        cases reads with
        | false => exact .next (.advance .refl)
        | true => exact .writeReg hrd hread _
      | some g =>
        cases reads with
        | false => exact .next (.advance (.csrWrite .refl hcsr c _))
        | true => exact .writeReg hrd (hread.csrWrite hcsr c _) _

end

section

/-! ### Floating point -/

variable {fmt : Fmt}

theorem Answers.writeFloat {r : FloatResult fmt} (hrd : i.fDest = some rd) (hu : Effect i s u) :
    Answers i s (writeFloat rd r u) := .next (.advance ((hu.writeF hrd _).accrue _))

/-- An operation that rounds into `f[rd]`. -/
theorem Answers.rounded {rm : BitVec 3} {r : RoundMode → FloatResult fmt} (hrd : i.fDest = some rd) :
    Answers i s (Machine.withMode i rm s fun mode => Machine.writeFloat rd (r mode) s) :=
  .withMode fun _ => .writeFloat hrd .refl

theorem Answers.floatMinMax {op : Bool → fmt.Bits → fmt.Bits → FloatResult fmt} (hrd : i.fDest = some rd) :
    Answers i s (floatMinMax fmt op rd rs1 rs2 s) := by
  unfold Machine.floatMinMax
  split
  · exact .writeFloat hrd (.drawn .refl)
  · exact .writeFloat hrd .refl

theorem Answers.floatCompare {op : fmt.Bits → fmt.Bits → CompareResult} (hrd : i.xDest = some rd) :
    Answers i s (floatCompare fmt op rd rs1 rs2 s) := .writeReg hrd (.accrue .refl _) _

theorem Answers.floatToInt {ty : IntType} {rm : BitVec 3} (hrd : i.xDest = some rd) :
    Answers i s (floatToInt fmt ty i rd rs1 rm s) := .withMode fun _ => .writeReg hrd (.accrue .refl _) _

theorem Answers.moveToFloat (hrd : i.fDest = some rd) : Answers i s (moveToFloat fmt rd rs1 s) :=
  .next (.advance (.writeF .refl hrd _))

end

section

/-! ### Every instruction -/

/-- Every instruction is one of the shared operations on its own destination, behind the check of its table if it has
one. -/
theorem exec_answers (i : Instr) (s : State) : Answers i s (exec i s) := by
  cases i
  case lui | auipc | addi | xori | ori | andi | add | sub | sll | xor | srl | sra | or | and | slti | sltiu | slt
      | sltu =>
    exact .writeReg rfl .refl _
  case fclassD | fclassQ | fclassS | fmvXD | fmvXS | mul | mulh | mulhsu | mulhu | div | divu | rem | remu | mulw
      | divw | divuw | remw | remuw | addiw | slliw | srliw | sraiw | addw | subw | sllw | srlw | sraw =>
    exact .requires (.writeReg rfl .refl _)
  case jal | jalr =>
    exact .link rfl
  case beq | bne | blt | bge | bltu | bgeu =>
    exact .branch _ _
  case lb | lh | lw | lbu | lhu =>
    exact .load rfl
  case lwu | ld =>
    exact .requires (.load rfl)
  case sb | sh | sw =>
    exact .store rfl
  case sd =>
    exact .requires (.store rfl)
  case slli | srli | srai =>
    exact .withShamt fun _ => .writeReg rfl .refl _
  case fence => exact .next (.advance .refl)
  case fenceI imm rs1 rd => exact .next (.advance (.forget .refl ⟨imm, rs1, rd, rfl⟩))
  case lrW | lrD =>
    exact .requires (.loadReserved rfl rfl)
  case scW | scD =>
    exact .requires (.storeConditional rfl rfl rfl)
  case amoswapW | amoaddW | amoxorW | amoorW | amoandW | amominW | amomaxW | amominuW | amomaxuW | amoswapD |
      amoaddD | amoxorD | amoorD | amoandD | amominD | amomaxD | amominuD | amomaxuD =>
    exact .requires (.amo rfl rfl)
  case ecall | ebreak =>
    exact .requires (.raise (by decide) _)
  case uret | sret | hret | mret | dret | sfenceVm | wfi =>
    exact .requires (.refused _)
  case frcsr | frrm | frflags | rdcycle | rdtime | rdinstret | rdcycleh | rdtimeh | rdinstreth | csrrs | csrrsi |
      fscsr | fsrm | fsflags | fsrmi | fsflagsi | csrrw | csrrwi | csrrc | csrrci =>
    exact .requires (.csrAccess rfl rfl)
  case fld | flq | flw =>
    exact .requires (.loadFloat rfl)
  case fsd | fsq | fsw =>
    exact .requires (.storeFloat rfl)
  case fmaddD | fmsubD | fnmaddD | fnmsubD | fmaddQ | fmsubQ | fnmaddQ | fnmsubQ | fmaddS | fmsubS | fnmaddS |
      fnmsubS | faddD | fsubD | fmulD | fdivD | faddQ | fsubQ | fmulQ | fdivQ | faddS | fsubS | fmulS | fdivS |
      fcvtSD | fcvtDS | fcvtSQ | fcvtQS | fcvtDQ | fcvtQD | fsqrtD | fsqrtQ | fsqrtS | fcvtDW | fcvtDWu | fcvtDL
      | fcvtDLu | fcvtQW | fcvtQWu | fcvtQL | fcvtQLu | fcvtSW | fcvtSWu | fcvtSL | fcvtSLu =>
    exact .requires (.rounded rfl)
  case fsgnjD | fsgnjnD | fsgnjxD | fsgnjQ | fsgnjnQ | fsgnjxQ | fsgnjS | fsgnjnS | fsgnjxS =>
    exact .requires (.writeFloat rfl .refl)
  case fminD | fmaxD | fminQ | fmaxQ | fminS | fmaxS =>
    exact .requires (.floatMinMax rfl)
  case fleD | fltD | feqD | fleQ | fltQ | feqQ | fleS | fltS | feqS =>
    exact .requires (.floatCompare rfl)
  case fcvtWD | fcvtWuD | fcvtLD | fcvtLuD | fcvtWQ | fcvtWuQ | fcvtLQ | fcvtLuQ | fcvtWS | fcvtWuS | fcvtLS |
      fcvtLuS =>
    exact .requires (.floatToInt rfl)
  case fmvDX | fmvSX =>
    exact .requires (.moveToFloat rfl)
  case fmvXQ | fmvQX =>
    exact .illegal

/-- A next state is one that the updates of the instruction lead to. -/
theorem ends_of_exec {t : State} (h : exec i s = .next t) : Ends i s t := by
  have ha := exec_answers i s
  generalize exec i s = r at h ha
  cases ha with
  | next hends => cases h; exact hends
  | illegal => exact (illegal_ne_next h).elim
  | raise => exact (raise_ne_next h).elim
  | refused => cases h

end

end Sys2Proof.Machine
end

section
/-! PROOFS. What every instruction keeps (spec/10_state.md, spec/20_memory.md, spec/43_rv32a_rv64a.md R231,
spec/45_rv32f_rv64f.md R293, spec/60_exceptions.md R442): each by induction over the updates it may make. -/

namespace Sys2Proof.Machine

variable {i : Instr} {s t u : State} {r : RegNum} {a : Nat}

/-- Nothing but `pc` changes after the updates. -/
theorem Ends.frame (h : Ends i s t) : ∃ u p, Effect i s u ∧ t = { u with pc := p } := by
  cases h with
  | advance hu => exact ⟨_, _, hu, rfl⟩
  | jump hu ha => exact ⟨_, _, hu, rfl⟩

theorem Effect.cfg (h : Effect i s u) : u.cfg = s.cfg := by
  induction h <;> simp_all

theorem Effect.xNat (h : Effect i s u) (hr : i.xDest ≠ some r) : u.xNat r = s.xNat r := by
  induction h with
  | refl => rfl
  | @setX u _ rd hrd n v ih =>
    have hne : r ≠ rd := fun he => hr (he ▸ hrd)
    rw [State.setX_xNat, if_neg fun he => hne he.1, ih]
  | _ => next ih => exact (State.xNat_congr (by simp) (by simp) r).trans ih

theorem Effect.fNat (h : Effect i s u) (hr : i.fDest ≠ some r) : u.fNat r = s.fNat r := by
  induction h with
  | refl => rfl
  | @writeF u _ rd hrd w v ih =>
    have hne : r ≠ rd := fun he => hr (he ▸ hrd)
    rw [State.writeF, State.setF_fNat, if_neg hne, ih]
  | _ => next ih => exact (State.fNat_congr (by simp) (by simp) r).trans ih

/-- Settles O46: only `setX` and `writeF` change a register, and they change the destination. -/
theorem onlyDestinationsChangeRegisters : Obligations.OnlyDestinationsChangeRegisters := by
  intro i s t r h
  obtain ⟨u, p, hu, rfl⟩ := (ends_of_exec h).frame
  exact ⟨fun hr => hu.xNat hr, fun hr => hu.fNat hr⟩

theorem Effect.read (h : Effect i s u)
    (ha : ∀ p : Nat × Nat, i.storesTo s = some p → ∀ k < p.2, a ≠ (p.1 + k) % 2 ^ s.xlen) :
    Memory.read u.mem a = Memory.read s.mem a := by
  induction h with
  | refl => rfl
  | writeBytes _ hst v ih =>
    rw [State.writeBytes_read_other _ _ _ _ fun k hk => byteAddr_eq _ k ▸ ha _ hst k hk, ih]
  | _ => next ih => simpa using ih

/-- Settles O47: only `writeBytes` changes memory, and it changes the bytes of the table. -/
theorem onlyStoresChangeMemory : Obligations.OnlyStoresChangeMemory := by
  intro i s t a h ha
  obtain ⟨u, p, hu, rfl⟩ := (ends_of_exec h).frame
  exact hu.read ha

/-- `fence.i` stores nothing, so what it forgets has not changed. -/
theorem Effect.read_of_fenceI (h : Effect i s u) (hi : ∃ imm rs1 rd, i = .fenceI imm rs1 rd) :
    Memory.read u.mem a = Memory.read s.mem a := by
  obtain ⟨imm, rs1, rd, rfl⟩ := hi
  exact h.read nofun

theorem Effect.mem_dirty_of_changed (h : Effect i s u) (ha : Memory.read u.mem a ≠ Memory.read s.mem a) :
    a ∈ u.dirty := by
  induction h with
  | refl => exact absurd rfl ha
  | @writeBytes u _ b count hst w v ih =>
    rw [State.writeBytes_dirty]
    by_cases hb : ∃ k < count, a = byteAddr b k
    · exact .inr hb
    · rw [State.writeBytes_read_other _ _ _ _ fun k hk hk' => hb ⟨k, hk, hk'⟩] at ha
      exact .inl (ih ha)
  | forget hu hi => exact absurd (hu.read_of_fenceI hi) ha
  | _ => next ih => simpa using ih (by simpa using ha)

theorem Effect.mem_dirty (h : Effect i s u) (hi : ∀ imm rs1 rd, i ≠ .fenceI imm rs1 rd) (ha : a ∈ s.dirty) :
    a ∈ u.dirty := by
  induction h with
  | refl => exact ha
  | writeBytes _ _ v ih => exact (State.writeBytes_dirty ..).mpr (.inl ih)
  | forget _ hf => obtain ⟨imm, rs1, rd, rfl⟩ := hf; exact absurd rfl (hi imm rs1 rd)
  | _ => next ih => simpa using ih

/-- Settles O48: a store remembers its bytes, and `fence.i`, which forgets, changes none. -/
theorem changedBytesAreRemembered : Obligations.ChangedBytesAreRemembered := by
  intro i s t a h
  obtain ⟨u, p, hu, rfl⟩ := (ends_of_exec h).frame
  exact ⟨hu.mem_dirty_of_changed, hu.mem_dirty⟩

theorem Effect.lr (h : Effect i s u) (hi : i.writesReservation = false) : u.lr = s.lr := by
  induction h with
  | refl => rfl
  | reserve _ hlr | clearReservation _ hlr => rw [hi] at hlr; cases hlr
  | _ => next ih => simpa using ih

/-- Settles O49: only `reserve` and `clearReservation` write the reservation. -/
theorem onlyLrAndScChangeReservation : Obligations.OnlyLrAndScChangeReservation := by
  intro i s t hi h
  obtain ⟨u, p, hu, rfl⟩ := (ends_of_exec h).frame
  exact hu.lr hi

theorem Effect.frm (h : Effect i s u) (hi : i.isCsr = false) : u.frm = s.frm := by
  induction h with
  | refl => rfl
  | csrWrite _ hcsr => rw [hi] at hcsr; cases hcsr
  | _ => next ih => simpa using ih

theorem Effect.fflags (h : Effect i s u) (hi : i.isCsr = false) : s.fflags ||| u.fflags = u.fflags := by
  induction h with
  | refl => exact BitVec.or_self
  | csrWrite _ hcsr => rw [hi] at hcsr; cases hcsr
  | accrue _ flags ih => rw [State.accrue_fflags, ← BitVec.or_assoc, ih]
  | _ => next ih => simpa using ih

/-- Settles O50: outside the CSR instructions the flags are only accrued. -/
theorem onlyCsrWritesClearFlags : Obligations.OnlyCsrWritesClearFlags := by
  intro i s t hi h
  obtain ⟨u, p, hu, rfl⟩ := (ends_of_exec h).frame
  exact ⟨hu.fflags hi, hu.frm hi⟩

/-- Settles O51: every exception is raised by `raise` at the state itself, an illegal instruction by `illegal`. -/
theorem trapsNameTheInstruction : Obligations.TrapsNameTheInstruction := by
  intro i s e info pc h
  have ha := exec_answers i s
  generalize exec i s = res at h ha
  cases ha with
  | next => cases h
  | refused => cases h
  | illegal => cases h; exact ⟨shown_setWidth _, fun _ => shown_setWidth _⟩
  | raise he => cases h; exact ⟨shown_setWidth _, fun hill => absurd hill he⟩

end Sys2Proof.Machine
end

section
/-! PROOFS. The invariant of the machine: every update keeps it, and so does every step (spec/10_state.md R31, R33,
spec/20_memory.md R60). -/

namespace Sys2Proof.Machine

section

variable {s u : State}

/-- A value cut to a width fits it. -/
theorem setWidth_setWidth_toNat_lt {n m k : Nat} (v : BitVec n) : ((v.setWidth k).setWidth m).toNat < 2 ^ k := by
  rw [BitVec.toNat_setWidth]
  exact (Nat.mod_le _ _).trans_lt (v.setWidth k).isLt

/-- A register file whose entries fit a width, with one replaced by a value that fits. -/
theorem forall_set_lt {w n : Nat} {x : Vector (BitVec w) 32} {v : BitVec w} (hx : ∀ r : Fin 32, x[r].toNat < 2 ^ n)
    (hv : v.toNat < 2 ^ n) (k : Nat) (hk : k < 32) (r : Fin 32) : (x.set k v hk)[r].toNat < 2 ^ n := by
  rw [Fin.getElem_fin, Vector.getElem_set]
  split
  · exact hv
  · exact hx r

/-- The invariant after updates of the draws, `fcsr` or `pc` alone. -/
theorem inv_congr (h : s.Inv) (hcfg : u.cfg = s.cfg) (hx : u.x = s.x) (hf : u.f = s.f) (hlr : u.lr = s.lr)
    (hmem : u.mem = s.mem) (hdirty : u.dirty = s.dirty) (hpc4 : u.pc.toNat % 4 = 0)
    (hpc : u.pc.toNat < 2 ^ s.xlen) : u.Inv := by
  have hxlen : u.xlen = s.xlen := by rw [State.xlen, hcfg, State.xlen]
  have hflen : u.flen = s.flen := by rw [State.flen, hcfg, State.flen]
  obtain ⟨hmwf, hdwf, -, -, hx0, hxs, hfs, hlrs, hms, hds⟩ := h
  simp only [State.Inv, hx, hf, hlr, hmem, hdirty, hxlen, hflen]
  exact ⟨hmwf, hdwf, hpc4, hpc, hx0, hxs, hfs, hlrs, hms, hds⟩

theorem inv_setX (h : s.Inv) (rd : RegNum) {n : Nat} (v : BitVec n) : (s.setX rd v).Inv := by
  by_cases hrd : rd = 0
  · rw [hrd, State.setX_zero]; exact h
  · obtain ⟨hmwf, hdwf, hpc4, hpc, hx0, hxs, hrest⟩ := h
    rw [State.setX_of_ne s rd v hrd]
    refine ⟨hmwf, hdwf, hpc4, hpc, ?_, forall_set_lt hxs (setWidth_setWidth_toNat_lt v) _ rd.isLt, hrest⟩
    have hne : rd.toNat ≠ 0 := fun h0 => hrd (BitVec.eq_of_toNat_eq h0)
    exact (congrArg BitVec.toNat (Vector.getElem_set_ne rd.isLt _ hne)).trans hx0

theorem inv_writeF (h : s.Inv) (rd : RegNum) {w : Nat} (v : BitVec w) : (s.writeF rd v).Inv := by
  obtain ⟨hmwf, hdwf, hpc4, hpc, hx0, hxs, hfs, hrest⟩ := h
  exact ⟨hmwf, hdwf, hpc4, hpc, hx0, hxs, forall_set_lt hfs (setWidth_setWidth_toNat_lt _) _ rd.isLt, hrest⟩

theorem inv_reserve (h : s.Inv) {n : Nat} (a : BitVec n) : (s.reserve a).Inv := by
  obtain ⟨hmwf, hdwf, hpc4, hpc, hx0, hxs, hfs, -, hms, hds⟩ := h
  refine ⟨hmwf, hdwf, hpc4, hpc, hx0, hxs, hfs, fun b hb => ?_, hms, hds⟩
  cases hb
  exact setWidth_setWidth_toNat_lt a

theorem inv_clearReservation (h : s.Inv) : s.clearReservation.Inv := by
  obtain ⟨hmwf, hdwf, hpc4, hpc, hx0, hxs, hfs, -, hms, hds⟩ := h
  exact ⟨hmwf, hdwf, hpc4, hpc, hx0, hxs, hfs, nofun, hms, hds⟩

theorem inv_forget (h : s.Inv) : { s with dirty := [] }.Inv := by
  obtain ⟨hmwf, -, hpc4, hpc, hx0, hxs, hfs, hlrs, hms, -⟩ := h
  exact ⟨hmwf, .nil, hpc4, hpc, hx0, hxs, hfs, hlrs, hms, nofun⟩

theorem inv_writeByte (h : s.Inv) {a : Nat} (ha : a < 2 ^ s.xlen) (b : Byte) : (s.writeByte a b).Inv := by
  obtain ⟨hmwf, hdwf, hpc4, hpc, hx0, hxs, hfs, hlrs, hms, hds⟩ := h
  refine ⟨Memory.write_wf hmwf a b, AddrSet.insert_wf hdwf a, hpc4, hpc, hx0, hxs, hfs, hlrs, fun c hc => ?_,
    fun c hc => ?_⟩
  · rcases Memory.mem_write hc with rfl | hc
    · exact ha
    · exact hms c hc
  · rcases (AddrSet.mem_insert s.dirty a c).mp hc with rfl | hc
    · exact ha
    · exact hds c hc

theorem inv_writeBytes (h : s.Inv) {n w : Nat} (hn : n = s.xlen) (a : BitVec n) (v : BitVec w) (count : Nat) :
    (s.writeBytes a v count).Inv := by
  induction count with
  | zero => exact h
  | succ k ih => exact inv_writeByte ih (by rw [State.writeBytes_xlen, ← hn]; exact (a + BitVec.ofNat n k).isLt) _

theorem inv_setPc (h : s.Inv) {n : Nat} {a : BitVec n} (hn : n = s.xlen) (ha : a.toNat % 4 = 0) : (s.setPc a).Inv := by
  subst hn
  have hpc : (s.setPc a).pc.toNat = a.toNat := by
    rw [State.setPc_pc, BitVec.setWidth_eq, BitVec.toNat_setWidth_of_le s.xlen_le]
  exact inv_congr h rfl rfl rfl rfl rfl rfl (by rw [hpc]; exact ha) (by rw [hpc]; exact a.isLt)

/-- The next instruction in sequence is aligned when this one is. -/
theorem nextPc_aligned (h : s.Inv) : s.nextPc.toNat % 4 = 0 := by
  obtain ⟨-, -, hpc4, hpc, -⟩ := h
  rw [State.nextPc_toNat, State.seqPc, State.pcNat_eq, Nat.mod_eq_of_lt hpc]
  rcases s.xlen_cases with hx | hx <;> rw [hx] <;> omega

end

section

variable {i : Instr} {s t u : State}

theorem Effect.inv (h : Effect i s u) (hs : s.Inv) : u.Inv := by
  induction h with
  | refl => exact hs
  | setX _ _ v ih => exact inv_setX ih _ v
  | writeF _ _ v ih => exact inv_writeF ih _ v
  | reserve _ _ a ih => exact inv_reserve ih a
  | clearReservation _ _ ih => exact inv_clearReservation ih
  | forget _ _ ih => exact inv_forget ih
  | writeBytes hu _ v ih => exact inv_writeBytes ih (by rw [State.xlen, State.xlen, hu.cfg]) _ v _
  | _ => 
    next ih =>
    obtain ⟨-, -, hpc4, hpc, -⟩ := id ih
    exact inv_congr ih (by simp) (by simp) (by simp) (by simp) (by simp) (by simp) (by simpa using hpc4)
      (by simpa using hpc)

theorem Ends.inv (h : Ends i s t) (hs : s.Inv) : t.Inv ∧ t.cfg = s.cfg := by
  cases h with
  | advance hu => exact ⟨inv_setPc (hu.inv hs) rfl (nextPc_aligned (hu.inv hs)), hu.cfg⟩
  | jump hu ha => exact ⟨inv_setPc (hu.inv hs) (by rw [State.xlen, State.xlen, hu.cfg]) ha, hu.cfg⟩

end

/-- Settles O7: the fetch may take a draw, and then the instruction ends in a state that its updates lead to. -/
theorem stepKeepsInvariant : Obligations.StepKeepsInvariant := by
  intro s t hs h
  obtain ⟨w, s', hs', h⟩ := fetch_next h
  have hinv : s'.Inv ∧ s'.cfg = s.cfg := by
    rcases hs' with rfl | rfl
    · exact ⟨hs, rfl⟩
    · exact ⟨hs, rfl⟩
  obtain ⟨hinv, hcfg⟩ := hinv
  split at h
  · obtain ⟨ht, htcfg⟩ := (ends_of_exec h).inv hinv
    exact ⟨ht, htcfg.trans hcfg⟩
  · exact (raise_ne_next h).elim

end Sys2Proof.Machine
end

section
/-! PROOFS. Instructions that are illegal whatever their operands: the rows of an absent table, and those whose `rm` field
names no mode (spec/00_scope.md R9, spec/45_rv32f_rv64f.md R294). -/

namespace Sys2Proof.Machine

variable {i : Instr} {s : State} {rm : BitVec 3}

/-- Every instruction outside RV32I checks its table first. -/
theorem exec_of_lacks (h : s.cfg.has i.tableOf = false) : exec i s = illegal i s := by
  cases i
  case lui | auipc | addi | xori | ori | andi | add | sub | sll | xor | srl | sra | or | and | jal | jalr | beq |
      bne | blt | bge | bltu | bgeu | lb | lh | lw | lbu | lhu | sb | sh | sw | slti | sltiu | slt | sltu | slli
      | srli | srai | fence | fenceI =>
    cases h
  case fmvXQ | fmvQX => rfl
  all_goals exact requires_lacks h

/-- An operation that rounds is illegal without a mode, whether or not its table is available. -/
theorem requires_withMode_none {tab : InstrTable} {k : RoundMode → Result} (h : s.roundMode rm = none) :
    requires tab i s (withMode i rm s k) = illegal i s := by
  unfold requires withMode
  rw [h]
  exact ite_self _

/-- Every instruction with an `rm` field is an operation that rounds, behind the check of its table. -/
theorem exec_of_noMode (hrm : i.rmOf = some rm) (h : s.roundMode rm = none) : exec i s = illegal i s := by
  cases i
  case fmaddD | fmsubD | fnmaddD | fnmsubD | fmaddQ | fmsubQ | fnmaddQ | fnmsubQ | fmaddS | fmsubS | fnmaddS |
      fnmsubS | faddD | fsubD | fmulD | fdivD | faddQ | fsubQ | fmulQ | fdivQ | faddS | fsubS | fmulS | fdivS |
      fcvtSD | fcvtDS | fcvtSQ | fcvtQS | fcvtDQ | fcvtQD | fsqrtD | fsqrtQ | fsqrtS | fcvtWD | fcvtWuD | fcvtLD
      | fcvtLuD | fcvtWQ | fcvtWuQ | fcvtLQ | fcvtLuQ | fcvtWS | fcvtWuS | fcvtLS | fcvtLuS | fcvtDW | fcvtDWu |
      fcvtDL | fcvtDLu | fcvtQW | fcvtQWu | fcvtQL | fcvtQLu | fcvtSW | fcvtSWu | fcvtSL | fcvtSLu =>
    cases hrm; exact requires_withMode_none h
  all_goals cases hrm

/-- The codes that name no mode: 101, 110, and 111 of `frm`, or of `rm` where `frm` names none. -/
theorem State.roundMode_of_reserved (h : rm = 0b101 ∨ rm = 0b110 ∨ (rm = 0b111 ∧ 5 ≤ s.frm.toNat)) :
    s.roundMode rm = none := by
  have hcode : ∀ c : BitVec 3, 5 ≤ c.toNat → RoundMode.ofCode c = none := by decide
  rcases h with rfl | rfl | ⟨rfl, hfrm⟩
  · rfl
  · rfl
  · exact hcode s.frm hfrm

/-- Settles O45: the check of the table comes first, the check of the mode next. -/
theorem reservedModesAndAbsentRowsAreIllegal : Obligations.ReservedModesAndAbsentRowsAreIllegal := by
  intro i s
  exact ⟨fun h => illegal_of (h := exec_of_lacks h),
    fun rm hrm h => illegal_of (h := exec_of_noMode hrm (State.roundMode_of_reserved h))⟩

end Sys2Proof.Machine
end

section
/-! PROOFS. The words of the floating-point rows and of the privileged rows, whose masks leave out `rm` or keep `rd`
(spec/30_encoding.md R130). -/

namespace Sys2Proof.Machine

section

variable {i : Instr} {m : Nat}

/-- The mask of the fused operations keeps the opcode and `fmt`, the two low bits of `funct7`. -/
theorem row_of_fused {rs3 : BitVec 5} (h7 : (fieldsOf i).f7 = rs3 ++ (Fields.split (.ofNat 32 m)).fmt)
    (hop : (fieldsOf i).op = (Fields.split (.ofNat 32 m)).op := by rfl)
    (hm : Fields.join ⟨0#5 ++ (Fields.split (.ofNat 32 m)).fmt, 0#5, 0#5, 0#3, 0#5,
      (Fields.split (.ofNat 32 m)).op⟩ = .ofNat 32 m := by decide) : Row i m 0x600007f := by
  have hmask : BitVec.ofNat 32 0x600007f =
      Fields.join ⟨0#5 ++ BitVec.allOnes 2, 0#5, 0#5, 0#3, 0#5, BitVec.allOnes 7⟩ := by decide
  rw [Row, encode, hmask, fields_join_and, h7, hop, BitVec.and_append]
  simpa only [BitVec.and_zero, BitVec.and_allOnes] using hm

/-- The mask of the operations of two operands that round keeps the opcode and `funct7`. -/
theorem row_of_funct7_rm (h7 : (fieldsOf i).f7 = (Fields.split (.ofNat 32 m)).f7 := by rfl)
    (hop : (fieldsOf i).op = (Fields.split (.ofNat 32 m)).op := by rfl)
    (hm : Fields.join ⟨(Fields.split (.ofNat 32 m)).f7, 0#5, 0#5, 0#3, 0#5, (Fields.split (.ofNat 32 m)).op⟩ =
      .ofNat 32 m := by decide) : Row i m 0xfe00007f := by
  have hmask : BitVec.ofNat 32 0xfe00007f =
      Fields.join ⟨BitVec.allOnes 7, 0#5, 0#5, 0#3, 0#5, BitVec.allOnes 7⟩ := by decide
  rw [Row, encode, hmask, fields_join_and, h7, hop]
  simpa only [BitVec.and_zero, BitVec.and_allOnes] using hm

/-- The mask of the operations of one operand that round keeps the opcode, `funct7` and the `rs2` field. -/
theorem row_of_funct7_rs2_rm (h7 : (fieldsOf i).f7 = (Fields.split (.ofNat 32 m)).f7 := by rfl)
    (h2 : (fieldsOf i).rs2 = (Fields.split (.ofNat 32 m)).rs2 := by rfl)
    (hop : (fieldsOf i).op = (Fields.split (.ofNat 32 m)).op := by rfl)
    (hm : Fields.join ⟨(Fields.split (.ofNat 32 m)).f7, (Fields.split (.ofNat 32 m)).rs2, 0#5, 0#3, 0#5,
      (Fields.split (.ofNat 32 m)).op⟩ = .ofNat 32 m := by decide) : Row i m 0xfff0007f := by
  have hmask : BitVec.ofNat 32 0xfff0007f =
      Fields.join ⟨BitVec.allOnes 7, BitVec.allOnes 5, 0#5, 0#3, 0#5, BitVec.allOnes 7⟩ := by decide
  rw [Row, encode, hmask, fields_join_and, h7, h2, hop]
  simpa only [BitVec.and_zero, BitVec.and_allOnes] using hm

/-- The mask of `sfence.vm` keeps every field but `rs1`. -/
theorem row_of_all_but_rs1 (h7 : (fieldsOf i).f7 = (Fields.split (.ofNat 32 m)).f7 := by rfl)
    (h2 : (fieldsOf i).rs2 = (Fields.split (.ofNat 32 m)).rs2 := by rfl)
    (h3 : (fieldsOf i).f3 = (Fields.split (.ofNat 32 m)).f3 := by rfl)
    (hrd : (fieldsOf i).rd = (Fields.split (.ofNat 32 m)).rd := by rfl)
    (hop : (fieldsOf i).op = (Fields.split (.ofNat 32 m)).op := by rfl)
    (hm : Fields.join { Fields.split (.ofNat 32 m) with rs1 := 0#5 } = .ofNat 32 m := by decide) :
    Row i m 0xfff07fff := by
  have hmask : BitVec.ofNat 32 0xfff07fff = Fields.join ⟨BitVec.allOnes 7, BitVec.allOnes 5, 0#5,
      BitVec.allOnes 3, BitVec.allOnes 5, BitVec.allOnes 7⟩ := by decide
  rw [Row, encode, hmask, fields_join_and, h7, h2, h3, hrd, hop]
  simpa only [BitVec.and_zero, BitVec.and_allOnes] using hm

end

/-- Settles O3: the decoder computes each. -/
theorem decodeReadsSpecWords : Obligations.DecodeReadsSpecWords :=
  ⟨rfl, rfl, rfl, rfl, rfl, rfl, rfl, rfl, rfl, rfl, rfl, rfl, rfl, rfl, rfl, rfl, rfl, rfl, rfl⟩

/-- Settles O4: the mask of each row says which fields it fixes, and those are the fields of the instruction. -/
theorem floatRowsMatchTheTable : Obligations.FloatRowsMatchTheTable := by
  intro rd rs1 rs2 rs3 rm zimm
  exact ⟨row_of_fused rfl, row_of_fused rfl, row_of_fused rfl, row_of_fused rfl, row_of_funct7_rm, row_of_funct7_rm,
    row_of_funct7_rm, row_of_funct7_rm, row_of_funct7, row_of_funct7, row_of_funct7, row_of_funct7, row_of_funct7,
    row_of_funct7_rs2_rm, row_of_funct7, row_of_funct7, row_of_funct7, row_of_funct7_rs2_rm, row_of_funct7_rs2_rm,
    row_of_funct7_rs2_rm, row_of_funct7_rs2_rm, row_of_funct7_rs2, row_of_funct7_rs2_rm, row_of_funct7_rs2_rm,
    row_of_funct7_rs2_rm, row_of_funct7_rs2_rm, row_of_fused rfl, row_of_fused rfl, row_of_fused rfl, row_of_fused
    rfl, row_of_funct7_rm, row_of_funct7_rm, row_of_funct7_rm, row_of_funct7_rm, row_of_funct7, row_of_funct7,
    row_of_funct7, row_of_funct7, row_of_funct7, row_of_funct7_rs2_rm, row_of_funct7_rs2_rm, row_of_funct7_rs2_rm,
    row_of_funct7, row_of_funct7, row_of_funct7, row_of_funct7_rs2_rm, row_of_funct7_rs2_rm, row_of_funct7_rs2_rm,
    row_of_funct7_rs2_rm, row_of_funct7_rs2, row_of_funct7_rs2_rm, row_of_funct7_rs2_rm, row_of_funct7_rs2_rm,
    row_of_funct7_rs2_rm, row_of_all_but_rd, row_of_all_but_rd, row_of_all_but_rd, row_of_funct7_rs2,
    row_of_funct7_rs2, row_of_funct7_rs2, row_of_funct7_rs2, row_of_funct7_rs2, row_of_fused rfl, row_of_fused rfl,
    row_of_fused rfl, row_of_fused rfl, row_of_funct7_rm, row_of_funct7_rm, row_of_funct7_rm, row_of_funct7_rm,
    row_of_funct7, row_of_funct7, row_of_funct7, row_of_funct7, row_of_funct7, row_of_funct7_rs2_rm,
    row_of_funct7_rs2_rm, row_of_funct7_rs2_rm, row_of_funct7_rs2_rm, row_of_funct7_rs2_rm, row_of_funct7,
    row_of_funct7, row_of_funct7, row_of_funct7_rs2_rm, row_of_funct7_rs2_rm, row_of_funct7_rs2_rm,
    row_of_funct7_rs2_rm, row_of_funct7_rs2, row_of_funct7_rs2_rm, row_of_funct7_rs2_rm, row_of_funct7_rs2_rm,
    row_of_funct7_rs2_rm⟩

/-- Settles O29: behind the check of their table the seven are refusals. -/
theorem privilegedInstructionsRefused : Obligations.PrivilegedInstructionsRefused := by
  intro s rs1 hS
  have htab : s.cfg.has .rv32s = true := hS
  have hpc : s.getPc.setWidth 64 = shown s.pcNat := shown_setWidth s.getPc
  exact ⟨row_of_word rfl, row_of_word rfl, row_of_word rfl, row_of_word rfl, row_of_word rfl, row_of_all_but_rs1,
    row_of_word rfl, hpc ▸ requires_has htab, hpc ▸ requires_has htab, hpc ▸ requires_has htab, hpc ▸ requires_has htab,
    hpc ▸ requires_has htab, hpc ▸ requires_has htab, hpc ▸ requires_has htab⟩

end Sys2Proof.Machine
end

section
/-! PROOFS. Steps: the fetch, and reads of bytes of no known value (spec/10_state.md R45, spec/20_memory.md R62, R65, R75,
spec/60_exceptions.md R465). -/

namespace Sys2Proof.Machine

variable {s : State} {i : Instr} {rd rs1 rs2 : RegNum} {imm : BitVec 12} {bytes : Nat}

section

/-! ### The word of four bytes -/

theorem byteOfWord_toNat (w : InstrWord) (k : Nat) : (byteOfWord w k).toNat = w.toNat / 2 ^ (8 * k) % 2 ^ 8 := by
  rw [byteOfWord, BitVec.extractLsb'_toNat, Nat.shiftRight_eq_div_pow]

/-- The four bytes of a word make the word. -/
theorem bytesNat_byteOfWord (w : InstrWord) : bytesNat (byteOfWord w) 4 = w.toNat := by
  simp only [bytesNat, byteOfWord_toNat]
  have := w.isLt
  omega

/-- The word that four bytes make has them as its bytes. -/
theorem byteOfWord_of_bytesNat {w : InstrWord} {b : Nat → Byte} (hw : w.toNat = bytesNat b 4) {k : Nat} (hk : k < 4) :
    byteOfWord w k = b k := by
  have h0 := (b 0).isLt
  have h1 := (b 1).isLt
  have h2 := (b 2).isLt
  apply BitVec.eq_of_toNat_eq
  rw [byteOfWord_toNat, hw]
  simp only [bytesNat]
  have h3 := (b 3).isLt
  obtain rfl | rfl | rfl | rfl : k = 0 ∨ k = 1 ∨ k = 2 ∨ k = 3 := by omega
  all_goals omega

end

section

/-! ### The fetch -/

theorem permitsAll_fetch_iff : s.permitsAll (·.x) s.getPc 4 = true ↔ s.fetchable := by
  simp [State.permitsAll, State.permits, State.fetchable, byteAddr_eq, Region.contains, List.all_eq_true, and_assoc,
    State.pcNat]

theorem dirtyAt_fetch_iff : s.dirtyAt s.getPc 4 = true ↔ ¬ s.fetchClean := by
  simp [State.dirtyAt, State.fetchClean, byteAddr_eq, State.pcNat]

/-- A fetch that is permitted and clean reads the four bytes at `pc`. -/
theorem fetch_reads (hx : s.fetchable) (hc : s.fetchClean) (k : InstrWord → State → Result) :
    fetch s k = readBytes s.getPc 4 s k := by
  rw [fetch, permitsAll_fetch_iff.mpr hx, if_neg (by decide), if_neg (dirtyAt_fetch_iff.not.mpr (not_not.mpr hc))]

/-- What a step does with the word that the fetch hands on. -/
def runWord (w : InstrWord) (t : State) : Result :=
  match decode w with
  | .ok i => exec i t
  | .error _ => raise .illegalInstruction w t

theorem step_eq_fetch (s : State) : step s = fetch s runWord := rfl

theorem runWord_of_ok {w : InstrWord} (h : decode w = .ok i) (t : State) : runWord w t = exec i t := by
  rw [runWord, h]

theorem runWord_of_error {w : InstrWord} (h : ∀ i, decode w ≠ .ok i) (t : State) :
    runWord w t = .fault (.trap .illegalInstruction (shown w.toNat) (shown t.pcNat)) := by
  unfold runWord
  split
  · next i hi => exact absurd hi (h i)
  · rw [raise, shown_setWidth, shown_setWidth]; rfl

/-- A fetch of known bytes hands on their word. -/
theorem step_of_holds {w : InstrWord} (hx : s.fetchable) (hc : s.fetchClean) (hb : s.holds s.pcNat 4 (byteOfWord w)) :
    step s = runWord w s := by
  rw [step_eq_fetch, fetch_reads hx hc, readBytes_known hb, bytesNat_byteOfWord, BitVec.ofNat_toNat, BitVec.setWidth_eq]

/-- Settles O5: the fetch hands the word of the instruction on, and the decoder reads the instruction from it. -/
theorem stepRunsDecodedInstruction : Obligations.StepRunsDecodedInstruction := by
  intro s i hi hx hc hb
  rw [step_of_holds hx hc hb, runWord_of_ok (decodeInvertsEncode i hi)]

/-- Settles O6: the checks of the fetch in their order, and the word that decodes to nothing. -/
theorem fetchStopsTheRun : Obligations.FetchStopsTheRun := by
  intro s w
  refine ⟨fun hx => ?denied, fun hx hc => ?dirty, fun hx hc hb hw => ?undecoded⟩
  case denied =>
    have hp : s.permitsAll (·.x) s.getPc 4 = false := Bool.eq_false_iff.mpr (permitsAll_fetch_iff.not.mpr hx)
    rw [step_eq_fetch, fetch, hp, if_pos (by decide), raise, shown_setWidth]
    rfl
  case dirty =>
    rw [step_eq_fetch, fetch, permitsAll_fetch_iff.mpr hx, if_neg (by decide), dirtyAt_fetch_iff.mpr hc, if_pos rfl,
      shown_setWidth]
    rfl
  case undecoded => rw [step_of_holds hx hc hb, runWord_of_error hw]

end

section

/-! ### Reads of bytes of no known value -/

/-- A read of such bytes has their laws, if going on after a draw with a pattern of some bytes ends as it is said to. -/
theorem unknownReadLaw_of {a : BitVec s.xlen} {k : BitVec (8 * bytes) → State → Result} {r : Result}
    {ends : (Nat → Byte) → Prop} (h : r = readBytes a bytes s k)
    (hends : ∀ b v, v.toNat = bytesNat b bytes → r = k v s.drawn → ends b) :
    UnknownReadLaw s a.toNat bytes r ends := by
  intro hlacks
  obtain ⟨hfault, hany⟩ := readBytes_unknown (k := k) hlacks
  refine ⟨fun hu => ?_, fun hu => ?_⟩
  · rw [h]; exact hfault hu
  · obtain ⟨b, hb, hread⟩ := hany hu
    exact ⟨b, hb, hends b _ (ofNat_bytesNat_toNat b bytes) (h.trans hread)⟩

theorem unknownLoadLaw_of_signed (h : exec i s = load bytes true rd rs1 imm s) :
    UnknownLoadLaw i s rd (s.addrNat rs1 imm) bytes fun v => wrap s.xlen (asSigned (8 * bytes) v) :=
  fun ha hp => unknownReadLaw_of (h.trans (checked_passes ha hp)) fun b v hv hr =>
    completesDraw_of hr (by rw [Nat.mod_eq_of_lt (v.signExtend s.xlen).isLt, signExtend_toNat_asSigned, hv])

theorem unknownLoadLaw_of_unsigned (h : exec i s = load bytes false rd rs1 imm s) (hw : 8 * bytes ≤ s.xlen) :
    UnknownLoadLaw i s rd (s.addrNat rs1 imm) bytes id :=
  fun ha hp => unknownReadLaw_of (h.trans (checked_passes ha hp)) fun b v hv hr =>
    completesDraw_of hr (by rw [Nat.mod_eq_of_lt (v.setWidth s.xlen).isLt, BitVec.toNat_setWidth_of_le hw, hv, id])

theorem unknownFloatLoadLaw_of {fmt : Fmt} (h : exec i s = requires fmt.table i s (loadFloat fmt rd rs1 imm s))
    (htab : s.cfg.has fmt.table = true) : UnknownFloatLoadLaw i s rd (s.addrNat rs1 imm) (fmt.width / 8) := by
  rw [requires_has htab] at h
  refine fun ha hp => unknownReadLaw_of (h.trans (checked_passes ha hp)) fun b v hv hr => ?_
  have hw := fmt.bytes_le.trans (State.width_le_flen htab)
  refine ⟨_, hr, fun q => ?_, advance_pcNat_of (by simp) (by simp), by simp, by simp,
    fun q => State.xNat_congr (by simp) (by simp) q, by simp [SameFcsr], by simp [SameMem],
    reservation_of_lr (by simp) (by simp)⟩
  exact (State.fNat_congr (by simp) (by simp) q).trans (hv ▸ fIs_writeF (s := s) rd v hw q)

theorem unknownReservedLaw_of (h : exec i s = loadReserved bytes rd rs1 s) : UnknownReservedLaw i s rd rs1 bytes := by
  refine fun ha hp => unknownReadLaw_of (h.trans (checked_passes ha hp)) fun b v hv hr => ?_
  obtain ⟨hx, hpc, hf, hfcsr, hcfg⟩ :=
    ((SameRegisters.refl s).drawn.reserve (s.getX rs1)).setX_advance rd (v.signExtend s.xlen)
  rw [signExtend_toNat_asSigned, hv] at hx
  refine ⟨_, hr, hx, ?_, hpc, hcfg, by simp, hf, hfcsr, by simp [SameMem]⟩
  rw [State.reservation_toNat, State.advance_lr, State.setX_lr, State.reserve_lr, State.advance_xlen, State.setX_xlen,
    State.reserve_xlen, Option.map_some, setWidth_roundtrip _ s.drawn.xlen_le, State.getX_toNat]
  exact congrArg some (Nat.mod_eq_of_lt (s.xNat_lt rs1))

theorem unknownAmoLaw_of {op : BitVec (8 * bytes) → BitVec (8 * bytes) → BitVec (8 * bytes)} {f : Nat → Nat → Nat}
    (h : exec i s = amo bytes op rd rs1 rs2 s) (hop : Computes op f) (hc : bytes ≤ 16) :
    UnknownAmoLaw i s rd rs1 rs2 bytes f := by
  refine fun ha hp => unknownReadLaw_of (h.trans (checked_passes ha hp)) fun b old hold hr => ?_
  obtain ⟨new, hnew⟩ : ∃ new, new = op ((s.getX rs2).setWidth (8 * bytes)) old := ⟨_, rfl⟩
  rw [← hnew] at hr
  have hstored : StoredAt s.drawn (s.drawn.writeBytes (s.getX rs1) new bytes) (s.xNat rs1) bytes
      (f (s.xNat rs2 % 2 ^ (8 * bytes)) (bytesNat b bytes)) := by
    have hmod : new.toNat = f (s.xNat rs2 % 2 ^ (8 * bytes)) (bytesNat b bytes) % 2 ^ (8 * bytes) := by
      rw [hnew, hop.toNat, BitVec.toNat_setWidth, hold, State.getX_toNat]
    exact storedAt_of_mod (s := s.drawn) (a := s.getX rs1) hc
      (hmod ▸ storedAt_writeBytes (s := s.drawn) (s.getX rs1) new bytes hc)
  obtain ⟨hx, hpc, hf, hfcsr, hcfg⟩ :=
    ((SameRegisters.refl s).drawn.writeBytes (s.getX rs1) new bytes).setX_advance rd (old.signExtend s.xlen)
  rw [signExtend_toNat_asSigned, hold] at hx
  exact ⟨_, hr, hx, storedAt_congr (s := s) hstored (by simp) (by simp), hpc, hcfg, by simp, hf, hfcsr,
    reservation_of_lr (by simp) (by simp)⟩

end

/-- Settles O15: every read is `readBytes` past its checks, and goes on as it does for known bytes, after a draw. -/
theorem loadsOfUnknownBytes : Obligations.LoadsOfUnknownBytes := by
  intro s rd rs1 rs2 imm aq rl
  have hx := s.xlen_ge
  have h4 : 4 ≤ 16 := by decide
  have h8 : 8 ≤ 16 := by decide
  have hW (hA : s.cfg.extA = true) : s.cfg.has .rv32a = true := hA
  have hD (hA : s.cfg.extA = true) (h64 : s.xlen = 64) : s.cfg.has .rv64a = true := s.has_rv64a.mpr ⟨hA, h64⟩
  refine ⟨unknownLoadLaw_of_signed rfl, unknownLoadLaw_of_signed rfl, unknownLoadLaw_of_signed rfl,
    unknownLoadLaw_of_unsigned rfl (by omega), unknownLoadLaw_of_unsigned rfl (by omega),
    fun h64 => unknownLoadLaw_of_unsigned (requires_has (s.is64_eq h64)) (by omega),
    fun h64 => unknownLoadLaw_of_unsigned (requires_has (s.is64_eq h64)) (by omega),
    unknownFloatLoadLaw_of (fmt := .s) rfl, unknownFloatLoadLaw_of (fmt := .d) rfl,
    unknownFloatLoadLaw_of (fmt := .q) rfl, fun hA => unknownReservedLaw_of (requires_has (hW hA)),
    fun hA h64 => unknownReservedLaw_of (requires_has (hD hA h64)),
    fun hA => unknownAmoLaw_of (requires_has (hW hA)) computes_fst h4,
    fun hA => unknownAmoLaw_of (requires_has (hW hA)) computes_add h4,
    fun hA => unknownAmoLaw_of (requires_has (hW hA)) computes_xor h4,
    fun hA => unknownAmoLaw_of (requires_has (hW hA)) computes_or h4,
    fun hA => unknownAmoLaw_of (requires_has (hW hA)) computes_and h4,
    fun hA => unknownAmoLaw_of (requires_has (hW hA)) computes_minSigned h4,
    fun hA => unknownAmoLaw_of (requires_has (hW hA)) computes_maxSigned h4,
    fun hA => unknownAmoLaw_of (requires_has (hW hA)) computes_minUnsigned h4,
    fun hA => unknownAmoLaw_of (requires_has (hW hA)) computes_maxUnsigned h4,
    fun hA h64 => unknownAmoLaw_of (requires_has (hD hA h64)) computes_fst h8,
    fun hA h64 => unknownAmoLaw_of (requires_has (hD hA h64)) computes_add h8,
    fun hA h64 => unknownAmoLaw_of (requires_has (hD hA h64)) computes_xor h8,
    fun hA h64 => unknownAmoLaw_of (requires_has (hD hA h64)) computes_or h8,
    fun hA h64 => unknownAmoLaw_of (requires_has (hD hA h64)) computes_and h8,
    fun hA h64 => unknownAmoLaw_of (requires_has (hD hA h64)) computes_minSigned h8,
    fun hA h64 => unknownAmoLaw_of (requires_has (hD hA h64)) computes_maxSigned h8,
    fun hA h64 => unknownAmoLaw_of (requires_has (hD hA h64)) computes_minUnsigned h8,
    fun hA h64 => unknownAmoLaw_of (requires_has (hD hA h64)) computes_maxUnsigned h8, fun hfx hfc => ?fetch⟩
  case fetch =>
    refine unknownReadLaw_of (a := s.getPc) ((step_eq_fetch s).trans (fetch_reads hfx hfc _)) fun b w hw hr => ?_
    exact ⟨w, fun k hk => byteOfWord_of_bytesNat hw hk, fun i hi => hr.trans (runWord_of_ok hi _),
      fun hn => hr.trans (runWord_of_error hn _)⟩

end Sys2Proof.Machine
end

section
/-! PROOFS. The state before the first step, and `x0` (spec/10_state.md R31, R46, spec/70_reset_and_hazards.md R470). -/

namespace Sys2Proof.Machine

/-- Every register of a register file before the first step fits the width. -/
theorem bootRegisters_lt {w : Nat} (width : Nat) (rest : BitVec w) (given : List (RegNum × BitVec w)) (r : Fin 32) :
    (bootRegisters width rest given)[r].toNat < 2 ^ width := by
  have hget := bootRegisters_get width rest given (BitVec.ofFin r)
  rw [Fin.getElem_fin]
  exact (congrArg BitVec.toNat hget).trans_lt (setWidth_setWidth_toNat_lt _)

theorem boot_inv {cfg : Config} {image : List Host.Cell} (init : InitialValues) (hcfg : cfg.wf)
    (himage : Memory.wf image) (haddr : ∀ c ∈ image, c.1 < 2 ^ cfg.xlen.bits) : (State.boot cfg image init).Inv := by
  obtain ⟨-, -, -, hpc4, hpc, -⟩ := hcfg
  exact ⟨himage, .nil, hpc4, hpc, congrArg BitVec.toNat (Vector.getElem_set_self _),
    forall_set_lt (bootRegisters_lt _ _ _) (Nat.two_pow_pos _) 0 (by decide), bootRegisters_lt _ _ _, nofun, haddr,
    nofun⟩

theorem resetConfig_wf : resetConfig.wf := by decide

/-- Settles O8: every field is canonical or cut to its width. -/
theorem resetMeetsInvariant : Obligations.ResetMeetsInvariant :=
  ⟨fun _ _ init => boot_inv init, boot_inv _ resetConfig_wf .nil nofun⟩

/-- A register other than `x0` holds the low bits of the value it is given. -/
theorem boot_xNat {cfg : Config} {image : List Host.Cell} {init : InitialValues} {r : RegNum} {v : BitVec 64}
    (hv : init.x.lookup r = some v) (hr : r ≠ 0) :
    (State.boot cfg image init).xNat r = v.toNat % 2 ^ cfg.xlen.bits := by
  have hne : 0 ≠ r.toNat := fun h0 => hr (BitVec.eq_of_toNat_eq h0.symm)
  have hget : (State.boot cfg image init).x[r.toNat]'r.isLt = (v.setWidth cfg.xlen.bits).setWidth 64 := by
    refine (Vector.getElem_set_ne (by decide) r.isLt hne).trans ?_
    rw [bootRegisters_get, hv, Option.getD_some]
  rw [State.xNat_eq, if_neg hr, hget]
  exact setWidth_roundtrip v (State.boot cfg image init).xlen_le

theorem boot_fNat {cfg : Config} {image : List Host.Cell} {init : InitialValues} {r : RegNum} {v : BitVec 128}
    (hv : init.f.lookup r = some v) : (State.boot cfg image init).fNat r = v.toNat % 2 ^ cfg.flen := by
  have hget : (State.boot cfg image init).f[r.toNat]'r.isLt = (v.setWidth cfg.flen).setWidth 128 := by
    refine (bootRegisters_get _ _ _ r).trans ?_
    rw [hv, Option.getD_some]
  rw [State.fNat_eq, hget]
  exact setWidth_roundtrip v (State.boot cfg image init).flen_le

theorem boot_fcsr {cfg : Config} {image : List Host.Cell} {init : InitialValues} {v : BitVec 8}
    (hv : init.fcsr = some v) : (State.boot cfg image init).fcsr = v := by
  rw [State.fcsr, State.boot_frm, State.boot_fflags, hv, Option.getD_some]
  exact (BitVec.extractLsb'_append_extractLsb'_eq_extractLsb' rfl).trans BitVec.extractLsb'_eq_self

/-- Settles O9: a register that is given a value holds it, and the other fields are those of the parameters and the
image. -/
theorem resetLeavesStatedValues : Obligations.ResetLeavesStatedValues := by
  intro cfg image init a r
  exact ⟨State.xNat_zero _, rfl, rfl, rfl, rfl, fun _ hv hr => boot_xNat hv hr, fun _ hv => boot_fNat hv,
    fun _ hv => boot_fcsr hv⟩

/-- Settles O10: the laws of the register file. -/
theorem registerZeroReadsZero : Obligations.RegisterZeroReadsZero :=
  fun s rd r v => ⟨s.xNat_zero, s.setX_zero v, s.setX_xNat rd r v⟩

end Sys2Proof.Machine
end

section
/-! PROOFS. What the computational floating-point instructions end in, in the terms of the claims
(spec/45_rv32f_rv64f.md). -/

namespace Sys2Proof.Machine

theorem State.has_rv64f (s : State) : s.cfg.has .rv64f = true ↔ s.cfg.extF = true ∧ s.xlen = 64 := by
  rw [Config.has, Bool.and_eq_true, ← s.has_rv64i]; rfl

theorem State.has_rv64q (s : State) : s.cfg.has .rv64q = true ↔ s.cfg.extQ = true ∧ s.xlen = 64 := by
  rw [Config.has, Bool.and_eq_true, ← s.has_rv64i]; rfl

section

variable {s : State} {i : Instr} {fmt : Fmt} {rd rs1 rs2 : RegNum} {rm : BitVec 3} {mode : RoundMode} {tab : InstrTable}

theorem withMode_of_roundMode {k : RoundMode → Result} (hm : s.roundMode rm = some mode) :
    withMode i rm s k = k mode := by
  rw [withMode, hm]

/-- An operation that rounds completes with its result in the mode. -/
theorem completesF_of_rounding {k : RoundMode → Result} {r : FloatResult fmt} (hm : s.roundMode rm = some mode)
    (h : exec i s = requires tab i s (withMode i rm s k)) (hr : k mode = writeFloat rd r s)
    (htab : s.cfg.has tab = true) (hw : fmt.width ≤ s.flen) : CompletesF i s rd r :=
  completesF_of hw (by rw [h, requires_has htab, withMode_of_roundMode hm, hr])

/-! The integer a conversion reads, in the terms of the claims (R304). -/

theorem State.intOperand_w : s.intOperand .w rs1 = s.wInt rs1 := s.getW_toInt rs1

theorem State.intOperand_wu : s.intOperand .wu rs1 = s.wNat rs1 := congrArg _ (s.getW_toNat rs1)

/-- At `XLEN` 64 a register is as wide as a 64-bit operand. -/
theorem State.getX_setWidth_toNat (h64 : s.xlen = 64) : ((s.getX rs1).setWidth 64).toNat = s.xNat rs1 := by
  rw [BitVec.toNat_setWidth_of_le h64.le, State.getX_toNat]

theorem State.intOperand_l (h64 : s.xlen = 64) : s.intOperand .l rs1 = s.xInt rs1 := by
  rw [State.intOperand, State.xInt, ← asSigned_toNat, State.getX_setWidth_toNat h64, h64]

theorem State.intOperand_lu (h64 : s.xlen = 64) : s.intOperand .lu rs1 = s.xNat rs1 :=
  congrArg _ (State.getX_setWidth_toNat h64)

/-- A conversion from an integer completes with the integer converted. -/
theorem completesF_of_intToFloat {t : IntType} {n : Int} (hm : s.roundMode rm = some mode)
    (h : exec i s = requires tab i s (intToFloat fmt t i rd rs1 rm s)) (htab : s.cfg.has tab = true)
    (hw : fmt.width ≤ s.flen) (hn : s.intOperand t rs1 = n) : CompletesF i s rd (fmt.ofInt mode n) :=
  completesF_of_rounding hm h (hn ▸ rfl) htab hw

/-- A conversion to an integer completes with the low bits of its value, sign-extended. -/
theorem completesXFlags_of_floatToInt {t : IntType} (h : exec i s = requires tab i s (floatToInt fmt t i rd rs1 rm s))
    (htab : s.cfg.has tab = true) (hm : s.roundMode rm = some mode) :
    CompletesXFlags i s rd (wrap s.xlen (asSigned t.width (wrap t.width (fmt.toInt mode t (s.readF fmt rs1)).value)))
      (fmt.toInt mode t (s.readF fmt rs1)).flags := by
  rw [requires_has htab, floatToInt, withMode_of_roundMode hm] at h
  refine completesXFlags_of h ?_
  rw [Nat.mod_eq_of_lt (BitVec.isLt _), signExtend_toNat_asSigned, ofInt_toNat]

/-- A comparison completes with 1 or 0. -/
theorem completesXFlags_of_compare {r : CompareResult}
    (h : exec i s = requires fmt.table i s (writeBool rd r.holds (s.accrue r.flags)))
    (htab : s.cfg.has fmt.table = true) : CompletesXFlags i s rd (if r.holds then 1 else 0) r.flags := by
  rw [requires_has htab] at h
  refine completesXFlags_of h ?_
  rw [State.accrue_xlen, Nat.mod_eq_of_lt (BitVec.isLt _), ofBool_setWidth_toNat _ s.xlen_pos]

end

end Sys2Proof.Machine
end

section
/-! PROOFS. The rows of RV32FD, and the completion of the computational rows of F, D and Q (spec/47_rv32fd.md,
spec/45_rv32f_rv64f.md, spec/46_rv32d_rv64d.md, spec/48_rv32q_rv64q_rv128q.md). -/

namespace Sys2Proof.Machine

/-- Settles O32: each is a swap or a set of no bit of a view of `fcsr`, which exists with the extension. -/
theorem fcsrPseudoInstructions : Obligations.FcsrPseudoInstructions := by
  intro s rd rs1 zimm hF
  have htab : s.cfg.has .rv32fd = true := hF
  have hview {a : BitVec 12} (h : a = 0x001 ∨ a = 0x002 ∨ a = 0x003) : s.csrExists a := .inl ⟨hF, h⟩
  have hx := s.getX_toNat rs1
  have hz := s.toNat_setWidth_xlen zimm (by decide)
  have hset {a : BitVec 12} {i : Instr} (h : exec i s = csrSet i rd a 0 s 0) (ha : s.csrExists a)
      (hv : ¬ csrIsCounter a) : CompletesCsr i s rd a none := completesCsr_of_set ha hv rfl h
  exact ⟨hset (requires_has htab) (hview (by decide)) (by decide),
    hset (requires_has htab) (hview (by decide)) (by decide),
    hset (requires_has htab) (hview (by decide)) (by decide),
    completesCsr_of_swap (hview (by decide)) (by decide) hx (requires_has htab),
    completesCsr_of_swap (hview (by decide)) (by decide) hx (requires_has htab),
    completesCsr_of_swap (hview (by decide)) (by decide) hx (requires_has htab),
    completesCsr_of_swap (hview (by decide)) (by decide) hz (requires_has htab),
    completesCsr_of_swap (hview (by decide)) (by decide) hz (requires_has htab)⟩

/-- Settles O35: each is an operation that rounds behind the check of its table. -/
theorem floatArithmeticCompletes : Obligations.FloatArithmeticCompletes := by
  intro s rd rs1 rs2 rs3 rm mode hm
  have rounds (fmt : Fmt) {i : Instr} {k : RoundMode → Result} {r : FloatResult fmt}
      (h : exec i s = requires fmt.table i s (withMode i rm s k)) (hr : k mode = writeFloat rd r s)
      (htab : s.cfg.has fmt.table = true) : CompletesF i s rd r :=
    completesF_of_rounding hm h hr htab (State.width_le_flen htab)
  exact ⟨rounds .s rfl rfl, rounds .s rfl rfl, rounds .s rfl rfl, rounds .s rfl rfl, rounds .d rfl rfl,
    rounds .d rfl rfl, rounds .d rfl rfl, rounds .d rfl rfl, rounds .q rfl rfl, rounds .q rfl rfl, rounds .q rfl rfl,
    rounds .q rfl rfl, rounds .s rfl rfl, rounds .s rfl rfl, rounds .s rfl rfl, rounds .s rfl rfl, rounds .d rfl rfl,
    rounds .d rfl rfl, rounds .d rfl rfl, rounds .d rfl rfl, rounds .q rfl rfl, rounds .q rfl rfl, rounds .q rfl rfl,
    rounds .q rfl rfl⟩

/-- Settles O36: each is an operation that rounds behind the check of the table of the wider of its formats, and a
register holds both. -/
theorem squareRootAndFormatConversionComplete : Obligations.SquareRootAndFormatConversionComplete := by
  intro s rd rs1 rm mode hm
  have rounds (wide : Fmt) {fmt : Fmt} (hle : fmt.width ≤ wide.width) {i : Instr} {k : RoundMode → Result}
      {r : FloatResult fmt} (h : exec i s = requires wide.table i s (withMode i rm s k))
      (hr : k mode = writeFloat rd r s) (htab : s.cfg.has wide.table = true) : CompletesF i s rd r :=
    completesF_of_rounding hm h hr htab (hle.trans (State.width_le_flen htab))
  exact ⟨rounds .s le_rfl rfl rfl, rounds .d le_rfl rfl rfl, rounds .q le_rfl rfl rfl, rounds .d (by decide) rfl rfl,
    rounds .d le_rfl rfl rfl, rounds .q (by decide) rfl rfl, rounds .q le_rfl rfl rfl, rounds .q (by decide) rfl rfl,
    rounds .q le_rfl rfl rfl⟩

/-- Settles O39: the nine are `floatCompare` of a format behind the check of its table. -/
theorem floatComparisonCompletes : Obligations.FloatComparisonCompletes := by
  intro s rd rs1 rs2
  exact ⟨completesXFlags_of_compare (fmt := .s) rfl, completesXFlags_of_compare (fmt := .s) rfl,
    completesXFlags_of_compare (fmt := .s) rfl, completesXFlags_of_compare (fmt := .d) rfl,
    completesXFlags_of_compare (fmt := .d) rfl, completesXFlags_of_compare (fmt := .d) rfl,
    completesXFlags_of_compare (fmt := .q) rfl, completesXFlags_of_compare (fmt := .q) rfl,
    completesXFlags_of_compare (fmt := .q) rfl⟩

/-- Settles O40: the twelve are `floatToInt` of a format and a type behind the check of their table. -/
theorem floatToIntegerCompletes : Obligations.FloatToIntegerCompletes := by
  intro s rd rs1 rm mode hm
  exact ⟨fun hF => completesXFlags_of_floatToInt (t := .w) rfl hF hm,
    fun hF => completesXFlags_of_floatToInt (t := .wu) rfl hF hm,
    fun hF h64 => completesXFlags_of_floatToInt (t := .l) rfl (s.has_rv64f.mpr ⟨hF, h64⟩) hm,
    fun hF h64 => completesXFlags_of_floatToInt (t := .lu) rfl (s.has_rv64f.mpr ⟨hF, h64⟩) hm,
    fun hD => completesXFlags_of_floatToInt (t := .w) rfl hD hm,
    fun hD => completesXFlags_of_floatToInt (t := .wu) rfl hD hm,
    fun hD h64 => completesXFlags_of_floatToInt (t := .l) rfl (s.has_rv64d.mpr ⟨hD, h64⟩) hm,
    fun hD h64 => completesXFlags_of_floatToInt (t := .lu) rfl (s.has_rv64d.mpr ⟨hD, h64⟩) hm,
    fun hQ => completesXFlags_of_floatToInt (t := .w) rfl hQ hm,
    fun hQ => completesXFlags_of_floatToInt (t := .wu) rfl hQ hm,
    fun hQ h64 => completesXFlags_of_floatToInt (t := .l) rfl (s.has_rv64q.mpr ⟨hQ, h64⟩) hm,
    fun hQ h64 => completesXFlags_of_floatToInt (t := .lu) rfl (s.has_rv64q.mpr ⟨hQ, h64⟩) hm⟩

/-- Settles O41: the twelve are `intToFloat` of a format and a type behind the check of their table. -/
theorem integerToFloatCompletes : Obligations.IntegerToFloatCompletes := by
  intro s rd rs1 rm mode hm
  have hs (hF : s.cfg.extF = true) : Fmt.s.width ≤ s.flen := State.width_le_flen (fmt := .s) hF
  have hd (hD : s.cfg.extD = true) : Fmt.d.width ≤ s.flen := State.width_le_flen (fmt := .d) hD
  have hq (hQ : s.cfg.extQ = true) : Fmt.q.width ≤ s.flen := State.width_le_flen (fmt := .q) hQ
  exact ⟨fun hF => completesF_of_intToFloat hm rfl hF (hs hF) State.intOperand_w,
    fun hF => completesF_of_intToFloat hm rfl hF (hs hF) State.intOperand_wu,
    fun hF h64 => completesF_of_intToFloat hm rfl (s.has_rv64f.mpr ⟨hF, h64⟩) (hs hF) (State.intOperand_l h64),
    fun hF h64 => completesF_of_intToFloat hm rfl (s.has_rv64f.mpr ⟨hF, h64⟩) (hs hF) (State.intOperand_lu h64),
    fun hD => completesF_of_intToFloat hm rfl hD (hd hD) State.intOperand_w,
    fun hD => completesF_of_intToFloat hm rfl hD (hd hD) State.intOperand_wu,
    fun hD h64 => completesF_of_intToFloat hm rfl (s.has_rv64d.mpr ⟨hD, h64⟩) (hd hD) (State.intOperand_l h64),
    fun hD h64 => completesF_of_intToFloat hm rfl (s.has_rv64d.mpr ⟨hD, h64⟩) (hd hD) (State.intOperand_lu h64),
    fun hQ => completesF_of_intToFloat hm rfl hQ (hq hQ) State.intOperand_w,
    fun hQ => completesF_of_intToFloat hm rfl hQ (hq hQ) State.intOperand_wu,
    fun hQ h64 => completesF_of_intToFloat hm rfl (s.has_rv64q.mpr ⟨hQ, h64⟩) (hq hQ) (State.intOperand_l h64),
    fun hQ h64 => completesF_of_intToFloat hm rfl (s.has_rv64q.mpr ⟨hQ, h64⟩) (hq hQ) (State.intOperand_lu h64)⟩

end Sys2Proof.Machine
end

section
/-! PROOFS. A floating-point pattern as a sign and a magnitude, and what it stands for (spec/45_rv32f_rv64f.md R290). -/

namespace Sys2Proof.Machine

variable {fmt : Fmt}

/-! ### The parameters of the formats -/

theorem Fmt.two_pow_magnitude (fmt : Fmt) : 2 ^ (fmt.width - 1) = (fmt.expMax + 1) * 2 ^ fmt.fracBits := by
  cases fmt <;> rfl

theorem Fmt.infMagnitude_lt (fmt : Fmt) : fmt.infMagnitude < 2 ^ (fmt.width - 1) := by cases fmt <;> decide

theorem Fmt.expMax_pos (fmt : Fmt) : 0 < fmt.expMax := by cases fmt <;> decide

theorem Fmt.expMax_eq (fmt : Fmt) : fmt.expMax = 2 * fmt.bias + 1 := by cases fmt <;> rfl

theorem Fmt.infMagnitude_pos (fmt : Fmt) : 0 < fmt.infMagnitude := Nat.mul_pos fmt.expMax_pos (Nat.two_pow_pos _)

/-! ### Sign and magnitude -/

/-- The bits below the sign bit. -/
def Fmt.magnitude (fmt : Fmt) (b : fmt.Bits) : Nat := b.toNat % 2 ^ (fmt.width - 1)

theorem Fmt.magnitude_lt (b : fmt.Bits) : fmt.magnitude b < 2 ^ (fmt.width - 1) := Nat.mod_lt _ (Nat.two_pow_pos _)

theorem toNat_injective : ∀ {p q : Bool}, p.toNat = q.toNat → p = q := by decide

theorem Fmt.toNat_eq (b : fmt.Bits) : b.toNat = (fmt.sign b).toNat * 2 ^ (fmt.width - 1) + fmt.magnitude b := by
  rw [Fmt.sign_toNat, Fmt.magnitude, Nat.div_add_mod']

theorem Fmt.ofMagnitude_toNat {neg : Bool} {mag : Nat} (h : mag < 2 ^ (fmt.width - 1)) :
    (fmt.ofMagnitude neg mag).toNat = neg.toNat * 2 ^ (fmt.width - 1) + mag := by
  rw [Fmt.ofMagnitude, BitVec.toNat_ofNat, fmt.two_pow_width, Nat.mod_eq_of_lt (by split <;> omega)]
  cases neg <;> simp

theorem Fmt.magnitude_ofMagnitude {neg : Bool} {mag : Nat} (h : mag < 2 ^ (fmt.width - 1)) :
    fmt.magnitude (fmt.ofMagnitude neg mag) = mag := by
  rw [Fmt.magnitude, Fmt.ofMagnitude_toNat h, Nat.mul_add_mod_of_lt h]

theorem Fmt.sign_ofMagnitude {neg : Bool} {mag : Nat} (h : mag < 2 ^ (fmt.width - 1)) :
    fmt.sign (fmt.ofMagnitude neg mag) = neg := by
  have hb := Fmt.toNat_eq (fmt.ofMagnitude neg mag)
  rw [Fmt.magnitude_ofMagnitude h, Fmt.ofMagnitude_toNat h] at hb
  exact (toNat_injective (Nat.eq_of_mul_eq_mul_right (Nat.two_pow_pos _) (Nat.add_right_cancel hb))).symm

/-- A pattern is the one with its sign and its magnitude. -/
theorem Fmt.ofMagnitude_sign_magnitude (b : fmt.Bits) : fmt.ofMagnitude (fmt.sign b) (fmt.magnitude b) = b :=
  BitVec.eq_of_toNat_eq (by rw [Fmt.ofMagnitude_toNat (Fmt.magnitude_lt b), ← Fmt.toNat_eq])

theorem Fmt.fracField_eq (b : fmt.Bits) : fmt.fracField b = fmt.magnitude b % 2 ^ fmt.fracBits := by
  rw [Fmt.fracField, Fmt.magnitude, Nat.mod_mod_of_dvd _ (Dvd.intro_left _ fmt.two_pow_magnitude.symm)]

theorem Fmt.expField_eq (b : fmt.Bits) : fmt.expField b = fmt.magnitude b / 2 ^ fmt.fracBits := by
  rw [Fmt.expField, Fmt.magnitude, fmt.width_sub_one, Nat.add_comm, pow_add, Nat.mod_mul_right_div_self]

/-! ### The datum by the magnitude -/

theorem Fmt.expField_le (b : fmt.Bits) : fmt.expField b ≤ fmt.expMax := by
  have hlt := Fmt.magnitude_lt b
  rw [fmt.two_pow_magnitude] at hlt
  rw [Fmt.expField_eq]
  exact Nat.le_of_lt_succ ((Nat.div_lt_iff_lt_mul (Nat.two_pow_pos _)).mpr hlt)

/-- Below infinity the exponent field is not all ones. -/
theorem Fmt.expField_lt_iff {b : fmt.Bits} : fmt.expField b < fmt.expMax ↔ fmt.magnitude b < fmt.infMagnitude := by
  rw [Fmt.expField_eq, Nat.div_lt_iff_lt_mul (Nat.two_pow_pos _), Fmt.infMagnitude]

theorem Fmt.isZero_iff {b : fmt.Bits} : fmt.isZero b = true ↔ fmt.magnitude b = 0 := by
  rw [Fmt.isZero, Bool.and_eq_true, decide_eq_true_eq, decide_eq_true_eq, Fmt.expField_eq, Fmt.fracField_eq]
  constructor
  · rintro ⟨hdiv, hmod⟩
    rw [← Nat.div_add_mod (fmt.magnitude b) (2 ^ fmt.fracBits), hdiv, hmod, Nat.mul_zero]
  · intro h
    rw [h, Nat.zero_div, Nat.zero_mod]
    exact ⟨rfl, rfl⟩

/-- The magnitude of a number, from its magnitude bits; it goes on to what an infinity would be with a greater exponent
range. -/
def Fmt.magnitudeValue (fmt : Fmt) (mag : Nat) : ℚ :=
  if mag < 2 ^ fmt.fracBits then mag * 2 ^ fmt.quantumMin
  else (2 ^ fmt.fracBits + mag % 2 ^ fmt.fracBits : Nat) * 2 ^ (fmt.quantumMin + (mag / 2 ^ fmt.fracBits - 1 : Nat))

/-- Magnitude bits below those of infinity are those of a number. -/
theorem Fmt.datum_of_lt {b : fmt.Bits} (h : fmt.magnitude b < fmt.infMagnitude) :
    ∃ m e, fmt.datum b = .num (fmt.sign b) m e ∧ m < 2 ^ (fmt.fracBits + 1) ∧ fmt.quantumMin ≤ e ∧
      (m : ℚ) * 2 ^ e = fmt.magnitudeValue (fmt.magnitude b) := by
  have hex := Fmt.expField_lt_iff.mpr h
  have hfrac : fmt.fracField b < 2 ^ fmt.fracBits := Nat.mod_lt _ (Nat.two_pow_pos _)
  have hzero : fmt.expField b = 0 ↔ fmt.magnitude b < 2 ^ fmt.fracBits := by
    rw [Fmt.expField_eq, Nat.div_eq_zero_iff, or_iff_right (Nat.two_pow_pos _).ne']
  rw [Fmt.datum, if_neg hex.ne, Fmt.magnitudeValue, pow_succ]
  split
  case isTrue h0 =>
    refine ⟨_, _, rfl, by omega, le_rfl, ?_⟩
    rw [if_pos (hzero.mp h0), Fmt.fracField_eq, Nat.mod_eq_of_lt (hzero.mp h0)]
  case isFalse h0 =>
    refine ⟨_, _, rfl, by omega, by omega, ?_⟩
    rw [if_neg (mt hzero.mpr h0), Fmt.fracField_eq, Fmt.expField_eq]

theorem Fmt.datum_of_eq {b : fmt.Bits} (h : fmt.magnitude b = fmt.infMagnitude) : fmt.datum b = .inf (fmt.sign b) := by
  have hex : fmt.expField b = fmt.expMax := by
    rw [Fmt.expField_eq, h, Fmt.infMagnitude, Nat.mul_div_cancel _ (Nat.two_pow_pos _)]
  have hfrac : fmt.fracField b = 0 := by rw [Fmt.fracField_eq, h, Fmt.infMagnitude, Nat.mul_mod_left]
  rw [Fmt.datum, if_pos hex, if_pos hfrac]

theorem Fmt.datum_of_gt {b : fmt.Bits} (h : fmt.infMagnitude < fmt.magnitude b) :
    ∃ signaling, fmt.datum b = .nan signaling := by
  have hex : fmt.expField b = fmt.expMax :=
    le_antisymm (Fmt.expField_le b) (not_lt.mp fun hlt => by have := Fmt.expField_lt_iff.mp hlt; omega)
  have hfrac : fmt.fracField b ≠ 0 := fun h0 => by
    have hmag := Nat.div_add_mod' (fmt.magnitude b) (2 ^ fmt.fracBits)
    rw [← Fmt.expField_eq, ← Fmt.fracField_eq, hex, h0] at hmag
    exact h.ne hmag
  exact ⟨_, by rw [Fmt.datum, if_pos hex, if_neg hfrac]⟩

theorem Fmt.isFinite_iff {b : fmt.Bits} : (fmt.datum b).isFinite = true ↔ fmt.magnitude b < fmt.infMagnitude := by
  rcases lt_trichotomy (fmt.magnitude b) fmt.infMagnitude with h | h | h
  · obtain ⟨m, e, hd, -⟩ := Fmt.datum_of_lt h
    simp only [hd, Datum.isFinite, h]
  · simp [Fmt.datum_of_eq h, Datum.isFinite, h]
  · obtain ⟨_, hd⟩ := Fmt.datum_of_gt h
    simp [hd, Datum.isFinite, h.le]

theorem Fmt.isNaN_iff {b : fmt.Bits} : (fmt.datum b).isNaN = true ↔ fmt.infMagnitude < fmt.magnitude b := by
  rcases lt_trichotomy (fmt.magnitude b) fmt.infMagnitude with h | h | h
  · obtain ⟨m, e, hd, -⟩ := Fmt.datum_of_lt h
    simp [hd, Datum.isNaN, h.le]
  · simp [Fmt.datum_of_eq h, Datum.isNaN, h]
  · obtain ⟨_, hd⟩ := Fmt.datum_of_gt h
    simp only [hd, Datum.isNaN, h]

/-- The sign of a datum is the sign bit. -/
theorem Fmt.sign_of_datum_num {b : fmt.Bits} {neg : Bool} {m : Nat} {e : Int} (h : fmt.datum b = .num neg m e) :
    fmt.sign b = neg := by
  obtain ⟨m', e', hd, -⟩ := Fmt.datum_of_lt (Fmt.isFinite_iff.mp (congrArg Datum.isFinite h))
  rw [hd] at h
  exact (Datum.num.inj h).1

theorem Fmt.datum_eq_inf_iff {b : fmt.Bits} {neg : Bool} :
    fmt.datum b = .inf neg ↔ fmt.magnitude b = fmt.infMagnitude ∧ fmt.sign b = neg := by
  rcases lt_trichotomy (fmt.magnitude b) fmt.infMagnitude with h | h | h
  · obtain ⟨m, e, hd, -⟩ := Fmt.datum_of_lt h
    simp [hd, h.ne]
  · simp [Fmt.datum_of_eq h, h]
  · obtain ⟨_, hd⟩ := Fmt.datum_of_gt h
    simp [hd, h.ne']

/-! ### Values -/

/-- A sign as a factor. -/
def signFactor (neg : Bool) : ℚ := if neg then -1 else 1

theorem Datum.value_num (neg : Bool) (m : Nat) (e : Int) : (Datum.num neg m e).value = signFactor neg * (m * 2 ^ e) :=
  mul_assoc _ _ _

theorem Fmt.value_of_finite {b : fmt.Bits} (h : (fmt.datum b).isFinite = true) :
    (fmt.datum b).value = signFactor (fmt.sign b) * fmt.magnitudeValue (fmt.magnitude b) := by
  obtain ⟨m, e, hd, -, -, hv⟩ := Fmt.datum_of_lt (Fmt.isFinite_iff.mp h)
  rw [hd, Datum.value_num, hv]

/-- The magnitude with `n` units of the `k`-th binade; `n` may have just left the binade. -/
theorem Fmt.magnitudeValue_units {k n : Nat} (hk : k = 0 ∨ 2 ^ fmt.fracBits ≤ n) (hn : n ≤ 2 ^ (fmt.fracBits + 1)) :
    fmt.magnitudeValue (k * 2 ^ fmt.fracBits + n) = n * 2 ^ (fmt.quantumMin + k) := by
  have hP := Nat.two_pow_pos fmt.fracBits
  rw [Fmt.magnitudeValue]
  rcases lt_or_ge n (2 ^ fmt.fracBits) with hlt | hge
  · obtain rfl : k = 0 := hk.resolve_right (by omega)
    rw [Nat.zero_mul, Nat.zero_add, if_pos hlt, Nat.cast_zero, add_zero]
  · obtain ⟨r, rfl⟩ := Nat.exists_eq_add_of_le hge
    have hsum : k * 2 ^ fmt.fracBits + (2 ^ fmt.fracBits + r) = r + (k + 1) * 2 ^ fmt.fracBits := by ring
    rw [hsum, if_neg (by nlinarith), Nat.add_mul_mod_self_right, Nat.add_mul_div_right _ _ hP]
    rcases lt_or_ge r (2 ^ fmt.fracBits) with hr | hr
    · rw [Nat.mod_eq_of_lt hr, Nat.div_eq_of_lt hr, Nat.zero_add, Nat.add_sub_cancel]
    · obtain rfl : r = 2 ^ fmt.fracBits := by rw [pow_succ] at hn; omega
      rw [Nat.mod_self, Nat.div_self hP, Nat.add_sub_cancel_left, Nat.add_zero, ← two_mul]
      push_cast
      rw [← add_assoc, zpow_add_one₀ two_ne_zero]
      ring

/-- Magnitude bits are units of a binade. -/
theorem exists_units (P mag : Nat) (hP : 0 < P) :
    ∃ k n, mag = k * P + n ∧ (k = 0 ∨ P ≤ n) ∧ n < 2 * P := by
  rcases lt_or_ge mag P with h | h
  · exact ⟨0, mag, by omega, .inl rfl, by omega⟩
  · have hmod := Nat.mod_lt (mag - P) hP
    have hdiv := Nat.div_add_mod' (mag - P) P
    exact ⟨(mag - P) / P, P + (mag - P) % P, by omega, .inr (by omega), by omega⟩

/-- The order of the magnitude bits is the order of the magnitudes. -/
theorem Fmt.magnitudeValue_strictMono (fmt : Fmt) : StrictMono fmt.magnitudeValue := by
  refine strictMono_nat_of_lt_succ fun mag => ?_
  obtain ⟨k, n, rfl, hk, hn⟩ := exists_units (2 ^ fmt.fracBits) mag (Nat.two_pow_pos _)
  have hn' : n + 1 ≤ 2 ^ (fmt.fracBits + 1) := by rw [pow_succ]; omega
  rw [Nat.add_assoc, Fmt.magnitudeValue_units hk (by omega), Fmt.magnitudeValue_units (by omega) hn']
  have hunit : (0 : ℚ) < 2 ^ (fmt.quantumMin + k) := by positivity
  push_cast
  linarith

theorem Fmt.magnitudeValue_zero (fmt : Fmt) : fmt.magnitudeValue 0 = 0 := by
  have h := Fmt.magnitudeValue_units (fmt := fmt) (k := 0) (n := 0) (.inl rfl) (Nat.zero_le _)
  rwa [Nat.zero_mul, Nat.cast_zero, zero_mul] at h

theorem Fmt.magnitudeValue_nonneg (fmt : Fmt) (mag : Nat) : 0 ≤ fmt.magnitudeValue mag :=
  fmt.magnitudeValue_zero ▸ fmt.magnitudeValue_strictMono.monotone (Nat.zero_le mag)

theorem signFactor_ne_zero (neg : Bool) : signFactor neg ≠ 0 := by cases neg <;> simp [signFactor]

theorem signFactor_not (neg : Bool) : signFactor (!neg) = -signFactor neg := by cases neg <;> simp [signFactor]

theorem signFactor_bne (na nb : Bool) : signFactor (na != nb) = signFactor na * signFactor nb := by
  cases na <;> cases nb <;> simp [signFactor]

/-- The zeros are the patterns with value 0. -/
theorem Fmt.isZero_iff_value {b : fmt.Bits} (h : (fmt.datum b).isFinite = true) :
    fmt.isZero b = true ↔ (fmt.datum b).value = 0 := by
  rw [Fmt.isZero_iff, Fmt.value_of_finite h, mul_eq_zero, or_iff_right (signFactor_ne_zero _),
    ← fmt.magnitudeValue_zero, fmt.magnitudeValue_strictMono.injective.eq_iff]

theorem Fmt.isFinite_of_isZero {b : fmt.Bits} (h : fmt.isZero b = true) : (fmt.datum b).isFinite = true :=
  Fmt.isFinite_iff.mpr (Fmt.isZero_iff.mp h ▸ fmt.infMagnitude_pos)

/-- A number of the format has one pattern of each sign. -/
theorem Fmt.eq_of_sign_of_value {a b : fmt.Bits} (ha : (fmt.datum a).isFinite = true)
    (hb : (fmt.datum b).isFinite = true) (hs : fmt.sign a = fmt.sign b)
    (hv : (fmt.datum a).value = (fmt.datum b).value) :
    a = b := by
  rw [Fmt.value_of_finite ha, Fmt.value_of_finite hb, hs, mul_right_inj' (signFactor_ne_zero _),
    fmt.magnitudeValue_strictMono.injective.eq_iff] at hv
  rw [← Fmt.ofMagnitude_sign_magnitude a, ← Fmt.ofMagnitude_sign_magnitude b, hs, hv]

/-- The sign of a number that is not zero is its sign bit. -/
theorem Fmt.sign_iff_value_neg {b : fmt.Bits} (hb : (fmt.datum b).isFinite = true) (h0 : (fmt.datum b).value ≠ 0) :
    fmt.sign b = true ↔ (fmt.datum b).value < 0 := by
  have hpos : 0 ≤ fmt.magnitudeValue (fmt.magnitude b) := fmt.magnitudeValue_nonneg _
  rw [Fmt.value_of_finite hb] at h0 ⊢
  have hne := right_ne_zero_of_mul h0
  have hlt := lt_of_le_of_ne hpos hne.symm
  cases fmt.sign b <;> simp [signFactor, hlt, hlt.le]

/-! ### The special patterns -/

theorem Fmt.sign_zero (neg : Bool) : fmt.sign (fmt.zero neg) = neg := Fmt.sign_ofMagnitude (Nat.two_pow_pos _)

theorem Fmt.isZero_zero (neg : Bool) : fmt.isZero (fmt.zero neg) = true :=
  Fmt.isZero_iff.mpr (Fmt.magnitude_ofMagnitude (Nat.two_pow_pos _))

theorem Fmt.datum_infinity (neg : Bool) : fmt.datum (fmt.infinity neg) = .inf neg :=
  Fmt.datum_eq_inf_iff.mpr ⟨Fmt.magnitude_ofMagnitude fmt.infMagnitude_lt, Fmt.sign_ofMagnitude fmt.infMagnitude_lt⟩

end Sys2Proof.Machine
end

section
/-! PROOFS. NaN-boxing (spec/45_rv32f_rv64f.md R292). -/

namespace Sys2Proof.Machine

variable {s : State} {fmt : Fmt} {r : RegNum}

/-- A register is boxed if its number is at least that of all ones above the format. -/
theorem State.isBoxed_iff (hw : fmt.width ≤ s.flen) :
    s.isBoxed fmt r = true ↔ 2 ^ s.flen - 2 ^ fmt.width ≤ s.fNat r := by
  have hsplit : 2 ^ s.flen = 2 ^ (s.flen - fmt.width) * 2 ^ fmt.width := by rw [← pow_add, Nat.sub_add_cancel hw]
  have hones : 2 ^ s.flen - 2 ^ fmt.width = (2 ^ (s.flen - fmt.width) - 1) * 2 ^ fmt.width := by
    rw [Nat.sub_mul, ← hsplit, Nat.one_mul]
  have hlt : s.fNat r / 2 ^ fmt.width < 2 ^ (s.flen - fmt.width) :=
    (Nat.div_lt_iff_lt_mul (Nat.two_pow_pos _)).mpr (hsplit ▸ s.fNat_lt r)
  rw [hones, ← Nat.le_div_iff_mul_le (Nat.two_pow_pos _), State.isBoxed, decide_eq_true_eq]
  change s.fNat r / 2 ^ fmt.width = _ ↔ _
  omega

theorem State.readF_toNat_of_boxed (hw : fmt.width ≤ s.flen) (h : 2 ^ s.flen - 2 ^ fmt.width ≤ s.fNat r) :
    (s.readF fmt r).toNat = s.fNat r % 2 ^ fmt.width := by
  rw [State.readF, if_pos ((State.isBoxed_iff hw).mpr h), State.rawF_toNat]

theorem State.readF_of_not_boxed (hw : fmt.width ≤ s.flen) (h : s.fNat r < 2 ^ s.flen - 2 ^ fmt.width) :
    s.readF fmt r = fmt.canonicalNaN := by
  rw [State.readF, if_neg fun hb => ?_]
  exact absurd ((State.isBoxed_iff hw).mp hb) (by omega)

theorem State.readF_writeF (v : fmt.Bits) (hw : fmt.width ≤ s.flen) : (s.writeF r v).readF fmt r = v := by
  have hflen : (s.writeF r v).flen = s.flen := s.setF_flen r (boxed v)
  have hread : (s.writeF r v).fNat r = 2 ^ s.flen - 2 ^ fmt.width + v.toNat :=
    (fIs_writeF r v hw r).trans (if_pos rfl)
  have hdvd : 2 ^ fmt.width ∣ 2 ^ s.flen - 2 ^ fmt.width := Nat.dvd_sub (pow_dvd_pow 2 hw) dvd_rfl
  apply BitVec.eq_of_toNat_eq
  rw [State.readF_toNat_of_boxed (hflen ▸ hw) (by rw [hread, hflen]; exact Nat.le_add_right _ _), hread,
    Nat.add_mod, Nat.mod_eq_zero_of_dvd hdvd, Nat.zero_add, Nat.mod_mod, Nat.mod_eq_of_lt v.isLt]

/-- Settles O52: the boxing check is a bound on the number of the register. -/
theorem nanBoxingRoundTrip : Obligations.NaNBoxingRoundTrip := by
  intro s fmt r v hw
  exact ⟨State.readF_writeF v hw, fIs_writeF r v hw, State.readF_of_not_boxed hw, State.readF_toNat_of_boxed hw,
    rfl⟩

end Sys2Proof.Machine
end

section
/-! PROOFS. Comparisons, minimum and maximum as the order of values (spec/45_rv32f_rv64f.md R299, R301). -/

namespace Sys2Proof.Machine

/-- A number counted in smaller units. -/
theorem Datum.value_eq_scaled (neg : Bool) (m : Nat) {e base : Int} (h : base ≤ e) :
    (Datum.num neg m e).value = scaled neg m e base * 2 ^ base := by
  have hpow : (2 : ℚ) ^ e = 2 ^ (e - base).toNat * 2 ^ base := by
    rw [← zpow_natCast, Int.toNat_of_nonneg (by omega), ← zpow_add₀ two_ne_zero, Int.sub_add_cancel]
  rw [Datum.value_num, hpow, scaled]
  cases neg <;> simp [signFactor, mul_assoc]

section

variable (na nb : Bool) (ma mb : Nat) (ea eb : Int)

theorem scaled_lt_iff : scaled na ma ea (min ea eb) < scaled nb mb eb (min ea eb) ↔
    (Datum.num na ma ea).value < (Datum.num nb mb eb).value := by
  rw [Datum.value_eq_scaled na ma (min_le_left ea eb), Datum.value_eq_scaled nb mb (min_le_right ea eb),
    mul_lt_mul_iff_left₀ (by positivity), Int.cast_lt]

theorem scaled_eq_iff : scaled na ma ea (min ea eb) = scaled nb mb eb (min ea eb) ↔
    (Datum.num na ma ea).value = (Datum.num nb mb eb).value := by
  rw [Datum.value_eq_scaled na ma (min_le_left ea eb), Datum.value_eq_scaled nb mb (min_le_right ea eb),
    mul_left_inj' (by positivity), Int.cast_inj]

end

theorem Datum.place_num (neg : Bool) (m : Nat) (e : Int) :
    (Datum.num neg m e).place = (((Datum.num neg m e).value : WithTop ℚ) : WithBot (WithTop ℚ)) := rfl

theorem Datum.lt_iff_place {a b : Datum} (ha : a.isNaN = false) (hb : b.isNaN = false) :
    a.lt b = true ↔ a.place < b.place := by
  cases a with
  | nan => cases ha
  | inf na =>
    cases b with
    | nan => cases hb
    | inf nb => cases na <;> cases nb <;> simp [Datum.lt, Datum.place]
    | num nb mb eb => cases na <;> simp [Datum.lt, Datum.place]
  | num na ma ea =>
    cases b with
    | nan => cases hb
    | inf nb =>
      cases nb
      · simpa [Datum.lt, Datum.place] using WithBot.coe_lt_coe.mpr (WithTop.coe_lt_top _)
      · simp [Datum.lt, Datum.place]
    | num nb mb eb =>
      rw [Datum.lt, decide_eq_true_eq, scaled_lt_iff, Datum.place_num, Datum.place_num, WithBot.coe_lt_coe,
        WithTop.coe_lt_coe]

theorem Datum.eq_iff_place {a b : Datum} (ha : a.isNaN = false) (hb : b.isNaN = false) :
    a.eq b = true ↔ a.place = b.place := by
  cases a with
  | nan => cases ha
  | inf na =>
    cases b with
    | nan => cases hb
    | inf nb => cases na <;> cases nb <;> simp [Datum.eq, Datum.place]
    | num nb mb eb => cases na <;> simp [Datum.eq, Datum.place]
  | num na ma ea =>
    cases b with
    | nan => cases hb
    | inf nb => cases nb <;> simp [Datum.eq, Datum.place]
    | num nb mb eb =>
      rw [Datum.eq, decide_eq_true_eq, scaled_eq_iff, Datum.place_num, Datum.place_num, WithBot.coe_inj,
        WithTop.coe_inj]

theorem Datum.place_of_finite {a : Datum} (h : a.isFinite = true) :
    a.place = ((a.value : WithTop ℚ) : WithBot (WithTop ℚ)) := by
  cases a with
  | num neg m e => rfl
  | inf => cases h
  | nan => cases h

theorem Datum.not_isNaN_of_isFinite {a : Datum} (h : a.isFinite = true) : a.isNaN = false := by
  cases a with
  | num => rfl
  | inf => rfl
  | nan => cases h

theorem Datum.isSignaling_of_not_isNaN {a : Datum} (h : a.isNaN = false) : a.isSignaling = false := by
  cases a with
  | num => rfl
  | inf => rfl
  | nan => cases h

theorem Datum.lt_of_nan {a b : Datum} (h : a.isNaN = true ∨ b.isNaN = true) : a.lt b = false := by
  cases a <;> cases b <;> simp_all [Datum.lt, Datum.isNaN]

theorem Datum.eq_of_nan {a b : Datum} (h : a.isNaN = true ∨ b.isNaN = true) : a.eq b = false := by
  cases a <;> cases b <;> simp_all [Datum.eq, Datum.isNaN]

theorem FlagSet.when_nv_eq_nv {c : Bool} : FlagSet.when c .nv = .nv ↔ c = true := by cases c <;> decide

theorem FlagSet.when_nv_cases (c : Bool) : FlagSet.when c .nv = .nv ∨ FlagSet.when c .nv = .none := by
  cases c
  · exact .inr rfl
  · exact .inl rfl

section

variable {fmt : Fmt} {a b : fmt.Bits}

theorem Fmt.lt_holds_iff (ha : (fmt.datum a).isNaN = false) (hb : (fmt.datum b).isNaN = false) :
    (fmt.lt a b).holds = true ↔ (fmt.datum a).place < (fmt.datum b).place := Datum.lt_iff_place ha hb

theorem Fmt.eq_holds_iff (ha : (fmt.datum a).isNaN = false) (hb : (fmt.datum b).isNaN = false) :
    (fmt.eq a b).holds = true ↔ (fmt.datum a).place = (fmt.datum b).place := Datum.eq_iff_place ha hb

theorem Fmt.le_holds_iff (ha : (fmt.datum a).isNaN = false) (hb : (fmt.datum b).isNaN = false) :
    (fmt.le a b).holds = true ↔ (fmt.datum a).place ≤ (fmt.datum b).place := by
  rw [Fmt.le, Bool.or_eq_true, Datum.lt_iff_place ha hb, Datum.eq_iff_place ha hb, le_iff_lt_or_eq]

end

/-- Settles O59: the comparisons are those of the places, which finite data order as their values. -/
theorem comparisonsOrderNumbers : Obligations.ComparisonsOrderNumbers := by
  intro fmt a b
  refine ⟨fun ha hb => ?finite, fun ha hb => ?ordered, fun hnan => ?unordered⟩
  case finite =>
    have hna := Datum.not_isNaN_of_isFinite ha
    have hnb := Datum.not_isNaN_of_isFinite hb
    rw [Fmt.lt_holds_iff hna hnb, Fmt.eq_holds_iff hna hnb, Fmt.le_holds_iff hna hnb, Datum.place_of_finite ha,
      Datum.place_of_finite hb]
    norm_cast
  case ordered =>
    have hquiet : (fmt.datum a).anyNaN (fmt.datum b) = .none := by rw [Datum.anyNaN, ha, hb]; rfl
    have heq : (fmt.eq a b).flags = .none := by
      rw [Fmt.eq, Datum.isSignaling_of_not_isNaN ha, Datum.isSignaling_of_not_isNaN hb]; rfl
    exact ⟨Fmt.lt_holds_iff ha hb, Fmt.eq_holds_iff ha hb, Fmt.le_holds_iff ha hb, hquiet, heq, hquiet⟩
  case unordered =>
    have hnv : (fmt.datum a).anyNaN (fmt.datum b) = .nv := by
      rw [Datum.anyNaN, FlagSet.when_nv_eq_nv, Bool.or_eq_true]
      exact hnan
    have hle : (fmt.le a b).holds = false := by rw [Fmt.le, Datum.lt_of_nan hnan, Datum.eq_of_nan hnan]; rfl
    exact ⟨Datum.lt_of_nan hnan, Datum.eq_of_nan hnan, hle, hnv, hnv,
      by rw [Fmt.eq, FlagSet.when_nv_eq_nv, Bool.or_eq_true], FlagSet.when_nv_cases _⟩

end Sys2Proof.Machine
end

section
/-! PROOFS. What a minimum and a maximum deliver (spec/45_rv32f_rv64f.md R299). -/

namespace Sys2Proof.Machine

section

variable {fmt : Fmt} {y : Bool} {pick : fmt.Bits → fmt.Bits → fmt.Bits} {a b : fmt.Bits}

/-! ### By which operands are NaNs -/

theorem Fmt.minMax_of_numbers (ha : (fmt.datum a).isNaN = false) (hb : (fmt.datum b).isNaN = false) :
    fmt.minMax y pick a b = ⟨pick a b, .none⟩ := by
  simp [Fmt.minMax, ha, hb, Datum.isSignaling_of_not_isNaN, FlagSet.when]

theorem Fmt.minMax_of_nans (ha : (fmt.datum a).isNaN = true) (hb : (fmt.datum b).isNaN = true) :
    fmt.minMax y pick a b = fmt.nanOperands ((fmt.datum a).isSignaling || (fmt.datum b).isSignaling) := by
  simp [Fmt.minMax, ha, hb, Fmt.nanOperands, Fmt.nanResult]

/-- What a minimum or a maximum of a NaN, signaling or not, and a number delivers. -/
def Fmt.numberOverNaN (fmt : Fmt) (y signaling : Bool) (b : fmt.Bits) : FloatResult fmt :=
  ⟨if y && signaling then fmt.canonicalNaN else b, .when signaling .nv⟩

theorem Fmt.minMax_of_nan_left (ha : (fmt.datum a).isNaN = true) (hb : (fmt.datum b).isNaN = false) :
    fmt.minMax y pick a b = fmt.numberOverNaN y (fmt.datum a).isSignaling b := by
  cases hs : y && (fmt.datum a).isSignaling <;>
    simp [Fmt.minMax, Fmt.numberOverNaN, ha, hb, hs, Datum.isSignaling_of_not_isNaN hb]

theorem Fmt.minMax_of_nan_right (ha : (fmt.datum a).isNaN = true) (hb : (fmt.datum b).isNaN = false) :
    fmt.minMax y pick b a = fmt.numberOverNaN y (fmt.datum a).isSignaling b := by
  cases hs : y && (fmt.datum a).isSignaling <;>
    simp [Fmt.minMax, Fmt.numberOverNaN, ha, hb, hs, Datum.isSignaling_of_not_isNaN hb]

theorem Fmt.numberOverNaN_isNaN : (fmt.numberOverNaN true true b).isNaN True :=
  ⟨rfl, by simp [Fmt.numberOverNaN, FlagSet.when]⟩

/-! ### Of two numbers -/

theorem Fmt.oppositeZeros_iff : fmt.oppositeZeros a b = true ↔
    (fmt.isZero a = true ∧ fmt.isZero b = true) ∧ fmt.sign a ≠ fmt.sign b := by
  simp only [Fmt.oppositeZeros, Bool.and_eq_true, bne_iff_ne]

theorem Fmt.oppositeZeros_eq_false (h : ¬ (fmt.isZero a = true ∧ fmt.isZero b = true)) :
    fmt.oppositeZeros a b = false :=
  Bool.eq_false_iff.mpr fun ho => h (Fmt.oppositeZeros_iff.mp ho).1

theorem Fmt.eq_of_magnitude (hs : fmt.sign a = fmt.sign b) (hm : fmt.magnitude a = fmt.magnitude b) : a = b := by
  rw [← Fmt.ofMagnitude_sign_magnitude a, ← Fmt.ofMagnitude_sign_magnitude b, hs, hm]

theorem Fmt.eq_of_isZero (ha : fmt.isZero a = true) (hb : fmt.isZero b = true) (hs : fmt.sign a = fmt.sign b) :
    a = b :=
  Fmt.eq_of_magnitude hs ((Fmt.isZero_iff.mp ha).trans (Fmt.isZero_iff.mp hb).symm)

theorem Fmt.finite_or_inf (ha : (fmt.datum a).isNaN = false) :
    (fmt.datum a).isFinite = true ∨ ∃ neg, fmt.datum a = .inf neg := by
  cases h : fmt.datum a with
  | num => exact .inl rfl
  | inf neg => exact .inr ⟨neg, rfl⟩
  | nan => rw [h] at ha; cases ha

/-- But for the zeros, operands at one place are one pattern. -/
theorem Fmt.eq_of_place (ha : (fmt.datum a).isNaN = false) (hb : (fmt.datum b).isNaN = false)
    (hz : ¬ (fmt.isZero a = true ∧ fmt.isZero b = true)) (h : (fmt.datum a).place = (fmt.datum b).place) : a = b := by
  rcases Fmt.finite_or_inf ha with hfa | ⟨na, hia⟩ <;> rcases Fmt.finite_or_inf hb with hfb | ⟨nb, hib⟩
  · have hv : (fmt.datum a).value = (fmt.datum b).value := by
      rw [Datum.place_of_finite hfa, Datum.place_of_finite hfb] at h
      exact WithTop.coe_inj.mp (WithBot.coe_inj.mp h)
    have hne : (fmt.datum a).value ≠ 0 := fun h0 =>
      hz ⟨(Fmt.isZero_iff_value hfa).mpr h0, (Fmt.isZero_iff_value hfb).mpr (hv ▸ h0)⟩
    refine Fmt.eq_of_sign_of_value hfa hfb (Bool.eq_iff_iff.mpr ?_) hv
    rw [Fmt.sign_iff_value_neg hfa hne, Fmt.sign_iff_value_neg hfb (hv ▸ hne), hv]
  · rw [Datum.place_of_finite hfa, hib] at h
    cases nb <;> simp [Datum.place] at h
  · rw [Datum.place_of_finite hfb, hia] at h
    cases na <;> simp [Datum.place] at h
  · have hna := Fmt.datum_eq_inf_iff.mp hia
    have hnb := Fmt.datum_eq_inf_iff.mp hib
    rw [hia, hib] at h
    refine Fmt.eq_of_magnitude ?_ (hna.1.trans hnb.1.symm)
    rw [hna.2, hnb.2]
    cases na <;> cases nb <;> simp [Datum.place] at h ⊢

variable (ha : (fmt.datum a).isNaN = false) (hb : (fmt.datum b).isNaN = false)
  (hz : ¬ (fmt.isZero a = true ∧ fmt.isZero b = true))

include ha hb hz

theorem Fmt.lesser_of_place_le (h : (fmt.datum a).place ≤ (fmt.datum b).place) : fmt.lesser a b = a := by
  rw [Fmt.lesser, Fmt.oppositeZeros_eq_false hz, if_neg Bool.false_ne_true,
    if_neg (mt (Datum.lt_iff_place hb ha).mp h.not_gt)]

theorem Fmt.lesser_of_place_ge (h : (fmt.datum b).place ≤ (fmt.datum a).place) : fmt.lesser a b = b := by
  rcases h.lt_or_eq with hlt | heq
  · rw [Fmt.lesser, Fmt.oppositeZeros_eq_false hz, if_neg Bool.false_ne_true,
      if_pos ((Datum.lt_iff_place hb ha).mpr hlt)]
  · rw [Fmt.lesser_of_place_le ha hb hz heq.ge, Fmt.eq_of_place ha hb hz heq.symm]

theorem Fmt.greater_of_place_ge (h : (fmt.datum b).place ≤ (fmt.datum a).place) : fmt.greater a b = a := by
  rw [Fmt.greater, Fmt.oppositeZeros_eq_false hz, if_neg Bool.false_ne_true,
    if_neg (mt (Datum.lt_iff_place ha hb).mp h.not_gt)]

theorem Fmt.greater_of_place_le (h : (fmt.datum a).place ≤ (fmt.datum b).place) : fmt.greater a b = b := by
  rcases h.lt_or_eq with hlt | heq
  · rw [Fmt.greater, Fmt.oppositeZeros_eq_false hz, if_neg Bool.false_ne_true,
      if_pos ((Datum.lt_iff_place ha hb).mpr hlt)]
  · rw [Fmt.greater_of_place_ge ha hb hz heq.ge, Fmt.eq_of_place ha hb hz heq]

omit ha hb hz

theorem Fmt.lesser_self (a : fmt.Bits) : fmt.lesser a a = a := by
  simp [Fmt.lesser, Fmt.oppositeZeros]

theorem Fmt.greater_self (a : fmt.Bits) : fmt.greater a a = a := by
  simp [Fmt.greater, Fmt.oppositeZeros]

/-- A zero pattern without flags is the zero of its sign. -/
theorem Fmt.isZero_result (neg : Bool) : FloatResult.isZero ⟨fmt.zero neg, .none⟩ neg :=
  have hz := Fmt.isZero_zero (fmt := fmt) neg
  have hfin := Fmt.isFinite_of_isZero hz
  ⟨hfin, (Fmt.isZero_iff_value hfin).mp hz, Fmt.sign_zero neg, rfl⟩

end

end Sys2Proof.Machine
end

section
/-! PROOFS. `fmin` and `fmax` (spec/45_rv32f_rv64f.md R299). -/

namespace Sys2Proof.Machine

section

variable {s : State} {i : Instr} {fmt : Fmt} {rd rs1 rs2 : RegNum}
  {op : Bool → fmt.Bits → fmt.Bits → FloatResult fmt}

/-- Where no draw is due a minimum or a maximum completes with the result of its operation. -/
theorem completesF_of_minMax (h : exec i s = requires fmt.table i s (floatMinMax fmt op rd rs1 rs2 s))
    (htab : s.cfg.has fmt.table = true)
    (hz : (s.cfg.fminmax2008 && fmt.oppositeZeros (s.readF fmt rs1) (s.readF fmt rs2)) = false) :
    CompletesF i s rd (op s.cfg.fminmax2008 (s.readF fmt rs1) (s.readF fmt rs2)) := by
  rw [requires_has htab, floatMinMax, if_neg (Bool.eq_false_iff.mp hz)] at h
  exact completesF_of (State.width_le_flen htab) h

/-- A result in `f[rd]` after a draw, without flags, completes the instruction. -/
theorem completesDraw_of_writeFloat {bits : fmt.Bits} (hw : fmt.width ≤ s.flen)
    (h : exec i s = writeFloat rd (⟨bits, .none⟩ : FloatResult fmt) s.drawn) :
    ∃ t, exec i s = .next t ∧ FIs s t rd (s.box fmt.width bits.toNat) ∧ t.pcNat = s.seqPc ∧ t.cfg = s.cfg ∧
      t.draws = s.draws + 1 ∧ SameX s t ∧ SameFcsr s t ∧ SameMem s t ∧ SameLr s t := by
  rw [writeFloat, State.accrue_none] at h
  refine ⟨_, h, fun q => ?_, advance_pcNat_of (by simp) (by simp), by simp, by simp,
    fun q => State.xNat_congr (by simp) (by simp) q, by simp [SameFcsr], by simp [SameMem],
    reservation_of_lr (by simp) (by simp)⟩
  exact (State.fNat_congr rfl rfl q).trans (fIs_writeF (s := s.drawn) rd bits hw q)

/-- Where a draw is due, a minimum or a maximum completes with the zero it says. -/
theorem completesDraw_of_minMax (h : exec i s = requires fmt.table i s (floatMinMax fmt op rd rs1 rs2 s))
    (htab : s.cfg.has fmt.table = true)
    (hz : (s.cfg.fminmax2008 && fmt.oppositeZeros (s.readF fmt rs1) (s.readF fmt rs2)) = true) :
    ∃ t, exec i s = .next t ∧
      (FIs s t rd (s.box fmt.width 0) ∨ FIs s t rd (s.box fmt.width (2 ^ (fmt.width - 1)))) ∧ t.pcNat = s.seqPc ∧
      t.cfg = s.cfg ∧ t.draws = s.draws + 1 ∧ SameX s t ∧ SameFcsr s t ∧ SameMem s t ∧ SameLr s t := by
  rw [requires_has htab, floatMinMax, if_pos hz] at h
  obtain ⟨t, ht, hf, hrest⟩ := completesDraw_of_writeFloat (State.width_le_flen htab) h
  rw [Fmt.zero, Fmt.ofMagnitude_toNat (Nat.two_pow_pos _)] at hf
  refine ⟨t, ht, ?_, hrest⟩
  cases hneg : Config.zeroIsNegative s.draws with
  | false => exact .inl (by simpa [hneg] using hf)
  | true => exact .inr (by simpa [hneg] using hf)

end

/-- Settles O38: whether a draw is due says how the instruction completes; what the operations deliver goes by which
operands are NaNs and then by the order of places. -/
theorem minMaxCompletes : Obligations.MinMaxCompletes := by
  refine ⟨fun s rd rs1 rs2 => ?completes, fun fmt y a b => ⟨fun ha hb hz => ?numbers, fun ha hb => ?zeros,
    fun ha hb => ?nans, fun ha hb => ?nan⟩⟩
  case completes =>
    exact ⟨completesF_of_minMax (fmt := .s) rfl, completesF_of_minMax (fmt := .s) rfl,
      completesF_of_minMax (fmt := .d) rfl, completesF_of_minMax (fmt := .d) rfl,
      completesF_of_minMax (fmt := .q) rfl, completesF_of_minMax (fmt := .q) rfl,
      completesDraw_of_minMax (fmt := .s) rfl, completesDraw_of_minMax (fmt := .s) rfl,
      completesDraw_of_minMax (fmt := .d) rfl, completesDraw_of_minMax (fmt := .d) rfl,
      completesDraw_of_minMax (fmt := .q) rfl, completesDraw_of_minMax (fmt := .q) rfl⟩
  case numbers =>
    rw [Fmt.minimum, Fmt.maximum, Fmt.minMax_of_numbers ha hb, Fmt.minMax_of_numbers ha hb]
    refine ⟨fun hle => ?_, fun hge => ?_⟩
    · rw [Fmt.lesser_of_place_le ha hb hz hle, Fmt.greater_of_place_le ha hb hz hle]
      exact ⟨rfl, rfl⟩
    · rw [Fmt.lesser_of_place_ge ha hb hz hge, Fmt.greater_of_place_ge ha hb hz hge]
      exact ⟨rfl, rfl⟩
  case zeros =>
    have hna := Datum.not_isNaN_of_isFinite (Fmt.isFinite_of_isZero ha)
    have hnb := Datum.not_isNaN_of_isFinite (Fmt.isFinite_of_isZero hb)
    rw [Fmt.minimum, Fmt.maximum, Fmt.minMax_of_numbers hna hnb, Fmt.minMax_of_numbers hna hnb]
    refine ⟨fun hs => ?_, fun hs _ => ?_⟩
    · rw [← Fmt.eq_of_isZero ha hb hs, Fmt.lesser_self, Fmt.greater_self]
      exact ⟨rfl, rfl⟩
    · have hopp := Fmt.oppositeZeros_iff.mpr ⟨⟨ha, hb⟩, hs⟩
      rw [Fmt.lesser, Fmt.greater, if_pos hopp, if_pos hopp]
      exact ⟨Fmt.isZero_result true, Fmt.isZero_result false⟩
  case nans =>
    rw [Fmt.minimum, Fmt.maximum, Fmt.minMax_of_nans ha hb, Fmt.minMax_of_nans ha hb, ← Bool.or_eq_true]
    exact ⟨Fmt.nanOperands_isNaN _ _, Fmt.nanOperands_isNaN _ _⟩
  case nan =>
    rw [Fmt.minimum, Fmt.maximum, Fmt.minimum, Fmt.maximum, Fmt.minMax_of_nan_left ha hb,
      Fmt.minMax_of_nan_left ha hb, Fmt.minMax_of_nan_right ha hb, Fmt.minMax_of_nan_right ha hb]
    refine ⟨fun hs => ?quiet, fun hs hy => ?number, fun hs hy => ?canonical⟩
    case quiet =>
      have hq : fmt.numberOverNaN y (fmt.datum a).isSignaling b = ⟨b, .none⟩ := by
        rw [hs, Fmt.numberOverNaN, Bool.and_false]; rfl
      exact ⟨hq, hq, hq, hq⟩
    case number =>
      have hn : fmt.numberOverNaN y (fmt.datum a).isSignaling b = ⟨b, .nv⟩ := by rw [hs, hy]; rfl
      exact ⟨hn, hn, hn, hn⟩
    case canonical =>
      rw [hs, hy]
      exact ⟨Fmt.numberOverNaN_isNaN, Fmt.numberOverNaN_isNaN, Fmt.numberOverNaN_isNaN, Fmt.numberOverNaN_isNaN⟩

end Sys2Proof.Machine
end

section
/-! PROOFS. The special results of the floating-point operations: which are NaNs (spec/45_rv32f_rv64f.md R295 to R297,
R300, R304). -/

namespace Sys2Proof.Machine

section

variable {fmt : Fmt} {mode : RoundMode}

/-! ### Facts about data -/

theorem Fmt.isZero_iff_of_num {b : fmt.Bits} {neg : Bool} {m : Nat} {e : Int} (h : fmt.datum b = .num neg m e) :
    fmt.isZero b = true ↔ m = 0 := by
  rw [Fmt.isZero_iff_value (congrArg Datum.isFinite h), h, Datum.value_num, mul_eq_zero,
    or_iff_right (signFactor_ne_zero _), mul_eq_zero, or_iff_left (zpow_ne_zero _ two_ne_zero), Nat.cast_eq_zero]

/-- A zero is a number with significand 0 and the sign of its sign bit. -/
theorem Fmt.datum_of_isZero {b : fmt.Bits} (h : fmt.isZero b = true) : ∃ e, fmt.datum b = .num (fmt.sign b) 0 e := by
  obtain ⟨m, e, hd, -⟩ := Fmt.datum_of_lt (Fmt.isFinite_iff.mp (Fmt.isFinite_of_isZero h))
  obtain rfl := (Fmt.isZero_iff_of_num hd).mp h
  exact ⟨e, hd⟩

/-- A number that is not a NaN and not zero is infinite or has a significand that is not 0. -/
theorem Fmt.inf_or_num {b : fmt.Bits} (hb : (fmt.datum b).isNaN = false) (hz : fmt.isZero b = false) :
    fmt.datum b = .inf (fmt.sign b) ∨ ∃ m e, fmt.datum b = .num (fmt.sign b) m e ∧ m ≠ 0 := by
  rcases Fmt.finite_or_inf hb with hfin | ⟨neg, hinf⟩
  · obtain ⟨m, e, hd, -⟩ := Fmt.datum_of_lt (Fmt.isFinite_iff.mp hfin)
    exact .inr ⟨m, e, hd, fun h0 => Bool.eq_false_iff.mp hz ((Fmt.isZero_iff_of_num hd).mpr h0)⟩
  · exact .inl ((Fmt.datum_eq_inf_iff.mp hinf).2.symm ▸ hinf)

/-- The datum goes by the sign and the magnitude. -/
theorem Fmt.datum_of_sign_of_magnitude {a b : fmt.Bits} (hs : fmt.sign b = !fmt.sign a)
    (hm : fmt.magnitude b = fmt.magnitude a) : fmt.datum b = (fmt.datum a).negate := by
  have hex : fmt.expField b = fmt.expField a := by rw [Fmt.expField_eq, Fmt.expField_eq, hm]
  have hfrac : fmt.fracField b = fmt.fracField a := by rw [Fmt.fracField_eq, Fmt.fracField_eq, hm]
  simp only [Fmt.datum, hex, hfrac, hs]
  split_ifs <;> rfl

/-- Inverting the sign bit negates the datum. -/
theorem Fmt.datum_negated (a : fmt.Bits) : fmt.datum (fmt.negated a) = (fmt.datum a).negate := by
  have hbit : (BitVec.ofNat fmt.width (2 ^ (fmt.width - 1))).toNat = 2 ^ (fmt.width - 1) := by
    rw [BitVec.toNat_ofNat, fmt.two_pow_width, Nat.mod_eq_of_lt (by have := Nat.two_pow_pos (fmt.width - 1); omega)]
  apply Fmt.datum_of_sign_of_magnitude
  · rw [Fmt.sign, Fmt.negated, BitVec.toNat_xor, hbit, Nat.testBit_xor, Nat.testBit_two_pow_self, Bool.xor_true,
      Fmt.sign]
  · rw [Fmt.magnitude, Fmt.negated, BitVec.toNat_xor, hbit, Nat.xor_mod_two_pow, Nat.mod_self, Nat.xor_zero,
      Fmt.magnitude]

/-! ### A NaN that is delivered is the canonical one -/

/-- The result is the canonical NaN if it is a NaN. -/
def FloatResult.NaNIsCanonical (r : FloatResult fmt) : Prop :=
  (fmt.datum r.bits).isNaN = true → r.bits = fmt.canonicalNaN

/-- A pattern with a magnitude up to infinity is no NaN. -/
theorem Fmt.not_isNaN_ofMagnitude {neg : Bool} {mag : Nat} (h : mag ≤ fmt.infMagnitude) :
    (fmt.datum (fmt.ofMagnitude neg mag)).isNaN = false :=
  Bool.eq_false_iff.mpr fun hn => by
    rw [Fmt.isNaN_iff, Fmt.magnitude_ofMagnitude (h.trans_lt fmt.infMagnitude_lt)] at hn
    omega

theorem nanIsCanonical_of_ofMagnitude {neg : Bool} {mag : Nat} {fl : FlagSet} (h : mag ≤ fmt.infMagnitude) :
    FloatResult.NaNIsCanonical (⟨fmt.ofMagnitude neg mag, fl⟩ : FloatResult fmt) := fun hn => by
  rw [Fmt.not_isNaN_ofMagnitude h] at hn
  cases hn

theorem nanIsCanonical_nanResult {fl : FlagSet} : (fmt.nanResult fl).NaNIsCanonical := fun _ => rfl

theorem nanIsCanonical_nanOperands {c : Bool} : (fmt.nanOperands c).NaNIsCanonical := nanIsCanonical_nanResult

theorem nanIsCanonical_invalid : fmt.invalid.NaNIsCanonical := nanIsCanonical_nanResult

theorem nanIsCanonical_zero {neg : Bool} {fl : FlagSet} :
    FloatResult.NaNIsCanonical (⟨fmt.zero neg, fl⟩ : FloatResult fmt) := nanIsCanonical_of_ofMagnitude (Nat.zero_le _)

theorem nanIsCanonical_infinity {neg : Bool} {fl : FlagSet} :
    FloatResult.NaNIsCanonical (⟨fmt.infinity neg, fl⟩ : FloatResult fmt) := nanIsCanonical_of_ofMagnitude le_rfl

theorem nanIsCanonical_overflow {neg : Bool} {fl : FlagSet} :
    FloatResult.NaNIsCanonical (⟨fmt.overflowBits mode neg, fl⟩ : FloatResult fmt) := by
  have hinf : FloatResult.NaNIsCanonical (⟨fmt.infinity neg, fl⟩ : FloatResult fmt) := nanIsCanonical_infinity
  have hmax : FloatResult.NaNIsCanonical (⟨fmt.maxFinite neg, fl⟩ : FloatResult fmt) :=
    nanIsCanonical_of_ofMagnitude (Nat.sub_le _ _)
  cases mode with
  | rne => exact hinf
  | rmm => exact hinf
  | rtz => exact hmax
  | rdn => cases neg with
    | true => exact hinf
    | false => exact hmax
  | rup => cases neg with
    | true => exact hmax
    | false => exact hinf

theorem nanIsCanonical_round {neg : Bool} {u : Unrounded} : (fmt.round mode neg u).NaNIsCanonical := by
  unfold Fmt.round
  extract_lets top free q r mag
  split
  case isTrue => exact nanIsCanonical_overflow
  case isFalse h => exact nanIsCanonical_of_ofMagnitude (by omega)

theorem nanIsCanonical_roundExact {neg : Bool} {m : Nat} {e : Int} :
    (fmt.roundExact mode neg m e).NaNIsCanonical := by
  unfold Fmt.roundExact
  split
  · exact nanIsCanonical_zero
  · exact nanIsCanonical_round

theorem nanIsCanonical_sumNumbers {na nb : Bool} {ma mb : Nat} {ea eb : Int} :
    (fmt.sumNumbers mode na ma ea nb mb eb).NaNIsCanonical := by
  unfold Fmt.sumNumbers
  extract_lets base sum
  split
  · exact nanIsCanonical_zero
  · exact nanIsCanonical_roundExact

theorem nanIsCanonical_sumData {a b : Datum} : (fmt.sumData mode a b).NaNIsCanonical := by
  unfold Fmt.sumData
  split
  · exact nanIsCanonical_nanOperands
  · exact nanIsCanonical_nanOperands
  · exact nanIsCanonical_nanOperands
  · split
    · exact nanIsCanonical_infinity
    · exact nanIsCanonical_invalid
  · exact nanIsCanonical_infinity
  · exact nanIsCanonical_infinity
  · exact nanIsCanonical_sumNumbers

theorem nanIsCanonical_mul {a b : fmt.Bits} : (fmt.mul mode a b).NaNIsCanonical := by
  unfold Fmt.mul
  split
  · exact nanIsCanonical_nanOperands
  · exact nanIsCanonical_nanOperands
  · exact nanIsCanonical_nanOperands
  · exact nanIsCanonical_infinity
  · split
    · exact nanIsCanonical_invalid
    · exact nanIsCanonical_infinity
  · split
    · exact nanIsCanonical_invalid
    · exact nanIsCanonical_infinity
  · exact nanIsCanonical_roundExact

theorem nanIsCanonical_div {a b : fmt.Bits} : (fmt.div mode a b).NaNIsCanonical := by
  unfold Fmt.div
  split
  · exact nanIsCanonical_nanOperands
  · exact nanIsCanonical_nanOperands
  · exact nanIsCanonical_nanOperands
  · exact nanIsCanonical_invalid
  · exact nanIsCanonical_infinity
  · exact nanIsCanonical_zero
  · split_ifs
    · exact nanIsCanonical_invalid
    · exact nanIsCanonical_infinity
    · exact nanIsCanonical_zero
    · exact nanIsCanonical_round

theorem nanIsCanonical_sqrt {a : fmt.Bits} : (fmt.sqrt mode a).NaNIsCanonical := by
  unfold Fmt.sqrt
  split
  · exact nanIsCanonical_nanOperands
  · split
    · exact nanIsCanonical_invalid
    · exact nanIsCanonical_infinity
  · split_ifs
    · exact nanIsCanonical_zero
    · exact nanIsCanonical_invalid
    · exact nanIsCanonical_round

theorem nanIsCanonical_fmaData {a b c : Datum} : (fmt.fmaData mode a b c).NaNIsCanonical := by
  unfold Fmt.fmaData
  split
  · exact nanIsCanonical_nanOperands
  · exact nanIsCanonical_nanOperands
  · exact nanIsCanonical_nanOperands
  · exact nanIsCanonical_sumData
  · split
    · exact nanIsCanonical_invalid
    · exact nanIsCanonical_sumData
  · split
    · exact nanIsCanonical_invalid
    · exact nanIsCanonical_sumData
  · exact nanIsCanonical_sumData

theorem nanIsCanonical_convert {dst : Fmt} {a : fmt.Bits} : (fmt.convert dst mode a).NaNIsCanonical := by
  unfold Fmt.convert
  split
  · exact nanIsCanonical_nanOperands
  · exact nanIsCanonical_infinity
  · exact nanIsCanonical_roundExact

/-! ### Operations with a NaN operand -/

theorem Fmt.sumData_nan {a b : Datum} (h : a.isNaN = true ∨ b.isNaN = true) :
    fmt.sumData mode a b = fmt.nanOperands (a.isSignaling || b.isSignaling) := by
  cases a <;> cases b <;> simp_all [Fmt.sumData, Datum.isNaN, Datum.isSignaling]

theorem Fmt.mul_nan {a b : fmt.Bits} (h : (fmt.datum a).isNaN = true ∨ (fmt.datum b).isNaN = true) :
    fmt.mul mode a b = fmt.nanOperands ((fmt.datum a).isSignaling || (fmt.datum b).isSignaling) := by
  unfold Fmt.mul
  cases ha : fmt.datum a <;> cases hb : fmt.datum b <;> simp_all [Datum.isNaN, Datum.isSignaling]

theorem Fmt.div_nan {a b : fmt.Bits} (h : (fmt.datum a).isNaN = true ∨ (fmt.datum b).isNaN = true) :
    fmt.div mode a b = fmt.nanOperands ((fmt.datum a).isSignaling || (fmt.datum b).isSignaling) := by
  unfold Fmt.div
  cases ha : fmt.datum a <;> cases hb : fmt.datum b <;> simp_all [Datum.isNaN, Datum.isSignaling]

theorem Datum.isSignaling_negate (a : Datum) : a.negate.isSignaling = a.isSignaling := by cases a <;> rfl

theorem Datum.isNaN_negate (a : Datum) : a.negate.isNaN = a.isNaN := by cases a <;> rfl

/-- The product of the operands of a fused operation is invalid: an infinity by a zero. -/
def Fmt.invalidProduct (fmt : Fmt) (a b : fmt.Bits) : Prop :=
  ((∃ n, fmt.datum a = .inf n) ∧ fmt.isZero b = true) ∨ (fmt.isZero a = true ∧ ∃ n, fmt.datum b = .inf n)

section

variable {a b c : fmt.Bits}

theorem Fmt.not_isNaN_of_inf {n : Bool} (h : fmt.datum a = .inf n) : (fmt.datum a).isNaN = false := by rw [h]; rfl

theorem Fmt.not_isNaN_of_isZero (h : fmt.isZero a = true) : (fmt.datum a).isNaN = false :=
  Datum.not_isNaN_of_isFinite (Fmt.isFinite_of_isZero h)

theorem Fmt.not_invalidProduct_of_nan (h : (fmt.datum a).isNaN = true ∨ (fmt.datum b).isNaN = true) :
    ¬ fmt.invalidProduct a b := by
  have hnan : ¬ ((fmt.datum a).isNaN = false ∧ (fmt.datum b).isNaN = false) := by
    rintro ⟨ha, hb⟩
    rw [ha, hb] at h
    rcases h with h | h <;> cases h
  rintro (⟨⟨n, ha⟩, hb⟩ | ⟨ha, n, hb⟩)
  · exact hnan ⟨Fmt.not_isNaN_of_inf ha, Fmt.not_isNaN_of_isZero hb⟩
  · exact hnan ⟨Fmt.not_isNaN_of_isZero ha, Fmt.not_isNaN_of_inf hb⟩

theorem Fmt.mul_of_invalidProduct (h : fmt.invalidProduct a b) : fmt.mul mode a b = fmt.invalid := by
  unfold Fmt.mul
  rcases h with ⟨⟨n, ha⟩, hb⟩ | ⟨ha, n, hb⟩
  · obtain ⟨e, hd⟩ := Fmt.datum_of_isZero hb
    simp [ha, hd]
  · obtain ⟨e, hd⟩ := Fmt.datum_of_isZero ha
    simp [hb, hd]

theorem Fmt.fmadd_of_invalidProduct (h : fmt.invalidProduct a b) : fmt.fmadd mode a b c = fmt.invalid := by
  unfold Fmt.fmadd Fmt.fmaData
  rcases h with ⟨⟨n, ha⟩, hb⟩ | ⟨ha, n, hb⟩
  · obtain ⟨e, hd⟩ := Fmt.datum_of_isZero hb
    simp [ha, hd]
  · obtain ⟨e, hd⟩ := Fmt.datum_of_isZero ha
    simp [hb, hd]

theorem Fmt.fmadd_nan_factor (h : (fmt.datum a).isNaN = true ∨ (fmt.datum b).isNaN = true) :
    fmt.fmadd mode a b c =
      fmt.nanOperands ((fmt.datum a).isSignaling || (fmt.datum b).isSignaling || (fmt.datum c).isSignaling) := by
  unfold Fmt.fmadd Fmt.fmaData
  cases ha : fmt.datum a <;> cases hb : fmt.datum b <;> simp_all [Datum.isNaN, Datum.isSignaling]

/-- A product that is valid is added to the addend. -/
theorem Fmt.fmadd_eq_sumData (ha : (fmt.datum a).isNaN = false) (hb : (fmt.datum b).isNaN = false)
    (h : ¬ fmt.invalidProduct a b) :
    ∃ p : Datum, p.isNaN = false ∧ fmt.fmadd mode a b c = fmt.sumData mode p (fmt.datum c) := by
  unfold Fmt.fmadd Fmt.fmaData
  cases hda : fmt.datum a with
  | nan => rw [hda] at ha; cases ha
  | inf na => cases hdb : fmt.datum b with
    | nan => rw [hdb] at hb; cases hb
    | inf nb => exact ⟨_, rfl, rfl⟩
    | num nb mb eb =>
      have hmb : mb ≠ 0 := fun h0 => h (.inl ⟨⟨_, hda⟩, (Fmt.isZero_iff_of_num hdb).mpr h0⟩)
      exact ⟨_, rfl, if_neg hmb⟩
  | num na ma ea => cases hdb : fmt.datum b with
    | nan => rw [hdb] at hb; cases hb
    | inf nb =>
      have hma : ma ≠ 0 := fun h0 => h (.inr ⟨(Fmt.isZero_iff_of_num hda).mpr h0, _, hdb⟩)
      exact ⟨_, rfl, if_neg hma⟩
    | num nb mb eb => exact ⟨_, rfl, rfl⟩

theorem Fmt.fmadd_nan_addend (ha : (fmt.datum a).isNaN = false) (hb : (fmt.datum b).isNaN = false)
    (h : ¬ fmt.invalidProduct a b) (hc : (fmt.datum c).isNaN = true) :
    fmt.fmadd mode a b c = fmt.nanOperands (fmt.datum c).isSignaling := by
  obtain ⟨p, hp, hsum⟩ := Fmt.fmadd_eq_sumData (mode := mode) (c := c) ha hb h
  rw [hsum, Fmt.sumData_nan (.inr hc), Datum.isSignaling_of_not_isNaN hp, Bool.false_or]

/-- A fused operation with a NaN operand: NV for a signaling operand, and for an invalid product. -/
theorem Fmt.fmadd_nan (h : (fmt.datum a).isNaN = true ∨ (fmt.datum b).isNaN = true ∨ (fmt.datum c).isNaN = true) :
    (fmt.fmadd mode a b c).isNaN ((fmt.datum a).isSignaling = true ∨ (fmt.datum b).isSignaling = true ∨
      (fmt.datum c).isSignaling = true ∨ fmt.invalidProduct a b) := by
  by_cases hab : (fmt.datum a).isNaN = true ∨ (fmt.datum b).isNaN = true
  · have hr := Fmt.nanOperands_isNaN fmt
      ((fmt.datum a).isSignaling || (fmt.datum b).isSignaling || (fmt.datum c).isSignaling)
    rw [Bool.or_eq_true, Bool.or_eq_true, or_assoc] at hr
    rwa [Fmt.fmadd_nan_factor hab, iff_false_intro (Fmt.not_invalidProduct_of_nan hab), or_false]
  · obtain ⟨ha, hb⟩ := not_or.mp hab
    rw [Bool.not_eq_true] at ha hb
    have hc : (fmt.datum c).isNaN = true := (h.resolve_left (by simp [ha])).resolve_left (by simp [hb])
    by_cases hinv : fmt.invalidProduct a b
    · rw [Fmt.fmadd_of_invalidProduct hinv, iff_true_intro hinv, or_true, or_true, or_true]
      exact fmt.invalid_isNaN
    · rw [Fmt.fmadd_nan_addend ha hb hinv hc, Datum.isSignaling_of_not_isNaN ha, Datum.isSignaling_of_not_isNaN hb,
        iff_false_intro hinv, or_false, or_iff_right Bool.false_ne_true, or_iff_right Bool.false_ne_true]
      exact Fmt.nanOperands_isNaN _ _

/-- An infinity times an operand that is no NaN and not zero is an infinity, to which the addend is added. -/
theorem Fmt.fmadd_infiniteProduct {n : Bool} (ha : fmt.datum a = .inf n) (hb : (fmt.datum b).isNaN = false)
    (hz : fmt.isZero b = false) :
    fmt.fmadd mode a b c = fmt.sumData mode (.inf (n ^^ fmt.sign b)) (fmt.datum c) ∧
    fmt.fmadd mode b a c = fmt.sumData mode (.inf (n ^^ fmt.sign b)) (fmt.datum c) := by
  unfold Fmt.fmadd Fmt.fmaData
  rcases Fmt.inf_or_num hb hz with hd | ⟨m, e, hd, hm⟩
  · simp [ha, hd, Bool.xor_comm]
  · simp [ha, hd, hm, Bool.xor_comm]

end

theorem FloatResult.isNaN_of_eq_invalid {r : FloatResult fmt} (h : r = fmt.invalid) : r.isNaN True :=
  h ▸ fmt.invalid_isNaN

end

/-- Settles O55: each result goes by the cases of the operands' data, and a subtraction differs from an addition by a
negated datum. -/
theorem nanResultsAreCanonical : Obligations.NaNResultsAreCanonical := by
  intro fmt dst mode y a b c
  refine ⟨nanIsCanonical_sumData, nanIsCanonical_sumData, nanIsCanonical_mul, nanIsCanonical_div, nanIsCanonical_sqrt,
    nanIsCanonical_fmaData, nanIsCanonical_fmaData, nanIsCanonical_fmaData, nanIsCanonical_fmaData,
    nanIsCanonical_convert, fun ha hb => ?minMax, ?negation, fun hab => ?binary, fun ha => ?unary, fun habc => ?fused,
    fun n ha => ?infinite, fun ha hb => ?zeros, fun ha hneg => ?negativeRoot⟩
  case minMax =>
    rw [Fmt.minimum, Fmt.maximum, Fmt.minMax_of_nans ha hb, Fmt.minMax_of_nans ha hb]
    exact ⟨rfl, rfl⟩
  case negation =>
    rw [Fmt.sub, Fmt.add, Fmt.fmsub, Fmt.fnmsub, Fmt.fnmadd, Fmt.fmadd, Fmt.fmadd, Fmt.fmadd, Fmt.datum_negated,
      Fmt.datum_negated]
    exact ⟨rfl, rfl, rfl, rfl⟩
  case binary =>
    have hab' : (fmt.datum a).isNaN = true ∨ (fmt.datum b).negate.isNaN = true := by rwa [Datum.isNaN_negate]
    rw [Fmt.add, Fmt.sub, Fmt.sumData_nan hab, Fmt.sumData_nan hab', Datum.isSignaling_negate, Fmt.mul_nan hab,
      Fmt.div_nan hab, ← Bool.or_eq_true]
    have hr := fmt.nanOperands_isNaN ((fmt.datum a).isSignaling || (fmt.datum b).isSignaling)
    exact ⟨hr, hr, hr, hr⟩
  case unary =>
    unfold Fmt.sqrt Fmt.convert
    cases hd : fmt.datum a with
    | nan sa => exact ⟨fmt.nanOperands_isNaN sa, dst.nanOperands_isNaN sa⟩
    | inf => rw [hd] at ha; cases ha
    | num => rw [hd] at ha; cases ha
  case fused => exact Fmt.fmadd_nan habc
  case infinite =>
    refine ⟨fun hb => ?sum, fun hb => ?difference, fun hb => ?product, fun k hb => ?quotient, fun hn => ?root,
      fun hb => ?fusedInvalid, fun hb hz hc => ?fusedSum⟩
    case sum => exact FloatResult.isNaN_of_eq_invalid (by simp [Fmt.add, Fmt.sumData, ha, hb])
    case difference => exact FloatResult.isNaN_of_eq_invalid (by simp [Fmt.sub, Fmt.sumData, Datum.negate, ha, hb])
    case product =>
      exact ⟨FloatResult.isNaN_of_eq_invalid (Fmt.mul_of_invalidProduct (.inl ⟨⟨n, ha⟩, hb⟩)),
        FloatResult.isNaN_of_eq_invalid (Fmt.mul_of_invalidProduct (.inr ⟨hb, n, ha⟩))⟩
    case quotient => exact FloatResult.isNaN_of_eq_invalid (by simp [Fmt.div, ha, hb])
    case root => exact FloatResult.isNaN_of_eq_invalid (by simp [Fmt.sqrt, ha, hn])
    case fusedInvalid =>
      exact ⟨FloatResult.isNaN_of_eq_invalid (Fmt.fmadd_of_invalidProduct (.inl ⟨⟨n, ha⟩, hb⟩)),
        FloatResult.isNaN_of_eq_invalid (Fmt.fmadd_of_invalidProduct (.inr ⟨hb, n, ha⟩))⟩
    case fusedSum =>
      obtain ⟨hab, hba⟩ := Fmt.fmadd_infiniteProduct (mode := mode) (c := c) ha hb hz
      have hsum : fmt.sumData mode (.inf (n ^^ fmt.sign b)) (fmt.datum c) = fmt.invalid := by
        rw [hc]
        exact if_neg (Bool.eq_not_self _).mp
      exact ⟨FloatResult.isNaN_of_eq_invalid (hab.trans hsum), FloatResult.isNaN_of_eq_invalid (hba.trans hsum)⟩
  case zeros =>
    obtain ⟨ea, hda⟩ := Fmt.datum_of_isZero ha
    obtain ⟨eb, hdb⟩ := Fmt.datum_of_isZero hb
    exact FloatResult.isNaN_of_eq_invalid (by simp [Fmt.div, hda, hdb])
  case negativeRoot =>
    have hsign : fmt.sign a = true := (Fmt.sign_iff_value_neg ha hneg.ne).mpr hneg
    obtain ⟨m, e, hd, -⟩ := Fmt.datum_of_lt (Fmt.isFinite_iff.mp ha)
    have hm : m ≠ 0 := fun h0 => hneg.ne ((Fmt.isZero_iff_value ha).mp ((Fmt.isZero_iff_of_num hd).mpr h0))
    exact FloatResult.isNaN_of_eq_invalid (by simp [Fmt.sqrt, hd, hm, hsign])

end Sys2Proof.Machine
end

section
/-! PROOFS. Rounding a magnitude to units (spec/45_rv32f_rv64f.md R294). -/

namespace Sys2Proof.Machine

/-! ### The two cases of the rounding -/

/-- At or below its unit nothing is rounded. -/
theorem roundTo_of_le {mode : RoundMode} {neg : Bool} {u : Unrounded} {q : Int} (h : q ≤ u.e) :
    roundTo mode neg u q = ⟨u.m * 2 ^ (u.e - q).toNat, u.more⟩ := if_pos h

/-- At a place `d` above its unit a magnitude goes to the units below it, or to one more. -/
theorem roundTo_above (mode : RoundMode) (neg : Bool) (u : Unrounded) {d : Nat} (hd : 0 < d) :
    roundTo mode neg u (u.e + d) =
      ⟨u.m / 2 ^ d + (mode.goesUp neg (u.m / 2 ^ d % 2 = 1) (u.m % 2 ^ d ≠ 0 || u.more)
        (u.m % 2 ^ d = 2 ^ (d - 1) && !u.more)
        (2 ^ (d - 1) < u.m % 2 ^ d || (u.m % 2 ^ d = 2 ^ (d - 1) && u.more))).toNat,
       u.m % 2 ^ d ≠ 0 || u.more⟩ := by
  have hsub : (u.e + d - u.e).toNat = d := by omega
  rw [roundTo, if_neg (by omega), hsub]

/-- The least multiple that is no less, as one division. -/
theorem div_roundUp (low rest P : Nat) (hP : 0 < P) (hr : rest < P) :
    (P * low + rest + P - 1) / P = low + if rest = 0 then 0 else 1 := by
  split
  case isTrue h0 =>
    rw [h0, Nat.add_zero, Nat.add_sub_assoc hP, Nat.mul_add_div hP, Nat.div_eq_of_lt (by omega)]
  case isFalse h0 =>
    have hsum : P * low + rest + P - 1 = P * (low + 1) + (rest - 1) := by rw [Nat.mul_add, Nat.mul_one]; omega
    rw [hsum, Nat.mul_add_div hP, Nat.div_eq_of_lt (by omega)]

/-- To nearest, a magnitude goes up from half a unit and stays down to half a unit. -/
theorem goesUp_nearest {mode : RoundMode} (hmode : mode = .rne ∨ mode = .rmm) (neg odd inexact : Bool)
    (rest half : Nat) :
    (mode.goesUp neg odd inexact (rest = half) (half < rest) = true → half ≤ rest) ∧
    (mode.goesUp neg odd inexact (rest = half) (half < rest) = false → rest ≤ half) := by
  rcases hmode with rfl | rfl
  · rcases lt_trichotomy rest half with h | h | h <;> simp [RoundMode.goesUp] <;> omega
  · rcases lt_trichotomy rest half with h | h | h <;> simp [RoundMode.goesUp] <;> omega

/-- Settles O53: by mode, from the units below and the rest. -/
theorem roundingToUnits : Obligations.RoundingToUnits := by
  intro mode neg m e d hd
  have hP : 2 ^ d = 2 * 2 ^ (d - 1) := by rw [← pow_succ', Nat.sub_add_cancel hd]
  have hr : m % 2 ^ d < 2 ^ d := Nat.mod_lt _ (Nat.two_pow_pos _)
  have hup := div_roundUp (m / 2 ^ d) (m % 2 ^ d) (2 ^ d) (Nat.two_pow_pos _) hr
  rw [Nat.div_add_mod] at hup
  rw [roundTo_above mode neg ⟨m, e, false⟩ hd, hup]
  simp only [Bool.or_false, Bool.not_false, Bool.and_true, Bool.and_false]
  refine ⟨by simp, ?toZero, ?down, ?up, fun hmode => ?nearest, fun htie => ?tie⟩
  case toZero => rintro rfl; rfl
  case down =>
    rintro rfl
    by_cases h0 : m % 2 ^ d = 0 <;> cases neg <;> simp [RoundMode.goesUp, h0]
  case up =>
    rintro rfl
    by_cases h0 : m % 2 ^ d = 0 <;> cases neg <;> simp [RoundMode.goesUp, h0]
  case nearest =>
    have hm : 2 * m = 2 * (m / 2 ^ d) * 2 ^ d + 2 * (m % 2 ^ d) := by
      rw [Nat.mul_assoc, ← Nat.mul_add, Nat.div_add_mod']
    obtain ⟨hgo, hstay⟩ := goesUp_nearest hmode neg (m / 2 ^ d % 2 = 1) (m % 2 ^ d ≠ 0) (m % 2 ^ d) (2 ^ (d - 1))
    cases hg : mode.goesUp neg (m / 2 ^ d % 2 = 1) (m % 2 ^ d ≠ 0) (m % 2 ^ d = 2 ^ (d - 1))
        (2 ^ (d - 1) < m % 2 ^ d) with
    | false =>
      have := hstay hg
      rw [Bool.toNat_false, Nat.add_zero]
      omega
    | true =>
      have := hgo hg
      rw [Bool.toNat_true, Nat.mul_add, Nat.add_mul]
      omega
  case tie =>
    have hhalf : m % 2 ^ d = 2 ^ (d - 1) := by omega
    rw [hhalf]
    refine ⟨?_, ?_⟩
    · rintro rfl
      rcases Nat.mod_two_eq_zero_or_one (m / 2 ^ d) with h | h
      · simp [RoundMode.goesUp, h]
      · simp [RoundMode.goesUp, h, Nat.add_mod]
    · rintro rfl
      simp [RoundMode.goesUp]

end Sys2Proof.Machine
end

section
/-! PROOFS. What a rounded magnitude is of the exact one, over the reals (spec/45_rv32f_rv64f.md R294). -/

namespace Sys2Proof.Machine

/-- The magnitude `u` stands for is `x`, or, with a nonzero part below the unit, may be `x`. -/
def Unrounded.Represents (u : Unrounded) (x : ℝ) : Prop :=
  if u.more then (u.m : ℝ) * 2 ^ u.e < x ∧ x < (u.m + 1) * 2 ^ u.e else x = u.m * 2 ^ u.e

/-- What a mode makes of a magnitude of `y` units: the units below it, or one more, as it compares with the middle. -/
def RoundMode.IsUnits (mode : RoundMode) (neg : Bool) (y : ℝ) (r : Rounded) : Prop :=
  ∃ low : Nat, (low : ℝ) ≤ y ∧ y < low + 1 ∧ (r.inexact = true ↔ y ≠ low) ∧
    r.n = low + (mode.goesUp neg (low % 2 = 1) r.inexact (y = low + 1 / 2) (low + 1 / 2 < y)).toNat

/-- A whole number of units is left as it is. -/
theorem isUnits_natCast (mode : RoundMode) (neg : Bool) (n : Nat) : mode.IsUnits neg n ⟨n, false⟩ := by
  refine ⟨n, le_rfl, lt_add_one _, by simp, ?_⟩
  cases mode <;> simp [RoundMode.goesUp]

section

variable {mode : RoundMode} {neg : Bool} {u : Unrounded} {x : ℝ}

theorem isUnits_of_le {q : Int} (hx : u.Represents x) (hmore : u.more = false) (h : q ≤ u.e) :
    mode.IsUnits neg (x / 2 ^ q) (roundTo mode neg u q) := by
  have hy : x / 2 ^ q = ((u.m * 2 ^ (u.e - q).toNat : Nat) : ℝ) := by
    rw [Unrounded.Represents, hmore, if_neg Bool.false_ne_true] at hx
    rw [hx, mul_div_assoc, ← zpow_sub₀ two_ne_zero, Nat.cast_mul, Nat.cast_pow, Nat.cast_ofNat, ← zpow_natCast,
      Int.toNat_of_nonneg (by omega)]
  rw [roundTo_of_le h, hmore, hy]
  exact isUnits_natCast mode neg _

/-- A represented magnitude is the integer part and a part of a unit, which is there if `more` says so. -/
theorem Unrounded.Represents.exists_part (hx : u.Represents x) :
    ∃ part : ℝ, x / 2 ^ u.e = u.m + part ∧ 0 ≤ part ∧ part < 1 ∧ (u.more = true ↔ part ≠ 0) := by
  have hpos : (0 : ℝ) < 2 ^ u.e := by positivity
  refine ⟨x / 2 ^ u.e - u.m, by ring, ?_⟩
  rw [Unrounded.Represents] at hx
  cases hmore : u.more with
  | false =>
    rw [hmore, if_neg Bool.false_ne_true] at hx
    rw [hx, mul_div_cancel_right₀ _ hpos.ne', sub_self]
    simp
  | true =>
    rw [hmore, if_pos rfl, ← lt_div_iff₀ hpos, ← div_lt_iff₀ hpos] at hx
    obtain ⟨hlow, hhigh⟩ := hx
    exact ⟨by linarith, by linarith, by simp; linarith⟩

/-- A whole number and a part of a unit reach a whole number only if they agree. -/
theorem add_part_eq_iff {rest k : Nat} {part : ℝ} (h0 : 0 ≤ part) (h1 : part < 1) :
    (rest : ℝ) + part = k ↔ rest = k ∧ part = 0 := by
  constructor
  · intro h
    have hle : rest ≤ k := by exact_mod_cast (by linarith : (rest : ℝ) ≤ k)
    have hlt : k < rest + 1 := by exact_mod_cast (by linarith : (k : ℝ) < rest + 1)
    obtain rfl : rest = k := by omega
    exact ⟨rfl, by linarith⟩
  · rintro ⟨rfl, rfl⟩
    exact add_zero _

theorem lt_add_part_iff {rest k : Nat} {part : ℝ} (h0 : 0 ≤ part) (h1 : part < 1) :
    (k : ℝ) < rest + part ↔ k < rest ∨ (rest = k ∧ part ≠ 0) := by
  rcases lt_trichotomy rest k with h | rfl | h
  · have hc : (rest : ℝ) + 1 ≤ k := by exact_mod_cast h
    exact iff_of_false (by linarith) (by omega)
  · simp [h0.lt_iff_ne']
  · have hc : (k : ℝ) < rest := by exact_mod_cast h
    exact iff_of_true (by linarith) (.inl h)

theorem isUnits_above {d : Nat} (hx : u.Represents x) (hd : 0 < d) :
    mode.IsUnits neg (x / 2 ^ (u.e + d)) (roundTo mode neg u (u.e + d)) := by
  obtain ⟨part, hpart, h0, h1, hmore⟩ := hx.exists_part
  have hhalf : (2 : ℝ) ^ d = 2 * (2 ^ (d - 1) : Nat) := by
    rw [Nat.cast_pow, Nat.cast_ofNat, ← pow_succ', Nat.sub_add_cancel hd]
  have hpos : (0 : ℝ) < 2 ^ d := by positivity
  have hm : (u.m : ℝ) = 2 ^ d * (u.m / 2 ^ d : Nat) + (u.m % 2 ^ d : Nat) := by
    exact_mod_cast (Nat.div_add_mod u.m (2 ^ d)).symm
  have hr : ((u.m % 2 ^ d : Nat) : ℝ) + 1 ≤ 2 ^ d := by exact_mod_cast Nat.mod_lt u.m (Nat.two_pow_pos d)
  have hy : x / 2 ^ (u.e + d) = (u.m / 2 ^ d : Nat) + ((u.m % 2 ^ d : Nat) + part) / 2 ^ d := by
    rw [zpow_add₀ two_ne_zero, zpow_natCast, ← div_div, hpart, hm]
    field_simp
    ring
  have hzero : x / 2 ^ (u.e + d) = (u.m / 2 ^ d : Nat) ↔ u.m % 2 ^ d = 0 ∧ part = 0 := by
    rw [hy, add_eq_left, div_eq_zero_iff, or_iff_left hpos.ne', ← add_part_eq_iff h0 h1, Nat.cast_zero]
  have htie : x / 2 ^ (u.e + d) = (u.m / 2 ^ d : Nat) + 1 / 2 ↔ u.m % 2 ^ d = 2 ^ (d - 1) ∧ part = 0 := by
    rw [hy, add_right_inj, div_eq_div_iff hpos.ne' two_ne_zero, ← add_part_eq_iff h0 h1, hhalf]
    constructor <;> intro h <;> linarith
  have habove : (u.m / 2 ^ d : Nat) + 1 / 2 < x / 2 ^ (u.e + d) ↔
      2 ^ (d - 1) < u.m % 2 ^ d ∨ (u.m % 2 ^ d = 2 ^ (d - 1) ∧ part ≠ 0) := by
    rw [hy, add_lt_add_iff_left, div_lt_div_iff₀ two_pos hpos, ← lt_add_part_iff h0 h1, hhalf]
    constructor <;> intro h <;> linarith
  have hfrac : ((u.m % 2 ^ d : Nat) + part) / 2 ^ d < 1 := (div_lt_one hpos).mpr (by linarith)
  have hnonneg : 0 ≤ ((u.m % 2 ^ d : Nat) + part) / 2 ^ d := by positivity
  have hmore' : u.more = decide (part ≠ 0) := Bool.eq_iff_iff.mpr (by simpa using hmore)
  rw [roundTo_above mode neg u hd]
  refine ⟨u.m / 2 ^ d, by linarith, by linarith, ?_, ?_⟩
  · simp [hzero, hmore', imp_iff_not_or]
  · simp only [htie, habove, hmore']
    simp

/-- A magnitude rounded at a place: exactly, or above its unit. -/
theorem isUnits_roundTo {q : Int} (hx : u.Represents x) (h : u.more = true → u.e < q) :
    mode.IsUnits neg (x / 2 ^ q) (roundTo mode neg u q) := by
  rcases le_or_gt q u.e with hle | hlt
  · exact isUnits_of_le hx (Bool.eq_false_iff.mpr fun hm => absurd (h hm) (by omega)) hle
  · obtain ⟨d, rfl⟩ := Int.le.dest hlt.le
    exact isUnits_above hx (by omega)

end

/-! ### With a sign -/

/-- A magnitude with a sign. -/
def signed {α : Type} [Neg α] (neg : Bool) (a : α) : α := if neg then -a else a

theorem signed_intCast (neg : Bool) (n : Int) : ((signed neg n : Int) : ℝ) = signed neg (n : ℝ) := by
  cases neg <;> simp [signed]

theorem abs_signed {α : Type} [AddCommGroup α] [LinearOrder α] [IsOrderedAddMonoid α] (neg : Bool) {a : α}
    (h : 0 ≤ a) : |signed neg a| = a := by
  cases neg <;> simp [signed, h]

theorem signed_sub (neg : Bool) (a b : ℝ) : signed neg a - signed neg b = signed neg (a - b) := by
  cases neg <;> simp [signed]; ring

theorem abs_signed_sub (neg : Bool) (a b : ℝ) : |signed neg a - signed neg b| = |a - b| := by
  rw [signed_sub]
  cases neg
  · rfl
  · exact abs_neg _

theorem signed_mul (neg : Bool) (a b : ℝ) : signed neg (a * b) = signed neg a * b := by
  cases neg <;> simp [signed]

/-- The integer a mode rounds a number to (R294). -/
def RoundMode.IsInteger (mode : RoundMode) (y : ℝ) (n : Int) : Prop :=
  match mode with
  | .rne => |n - y| ≤ 1 / 2 ∧ (|n - y| = 1 / 2 → n % 2 = 0)
  | .rmm => |n - y| ≤ 1 / 2 ∧ (|n - y| = 1 / 2 → |y| < |(n : ℝ)|)
  | .rtz => 0 ≤ n * y ∧ |(n : ℝ)| ≤ |y| ∧ |y| < |(n : ℝ)| + 1
  | .rdn => n ≤ y ∧ y < n + 1
  | .rup => y ≤ n ∧ n < y + 1

section

variable {mode : RoundMode} {neg : Bool} {y : ℝ} {r : Rounded}

/-- Going up is what the comparison with the middle says, or staying at the units below. -/
theorem RoundMode.IsUnits.cases (h : mode.IsUnits neg y r) : ∃ low : Nat, (low : ℝ) ≤ y ∧ y < low + 1 ∧
    (r.inexact = true ↔ y ≠ low) ∧
    ((mode.goesUp neg (low % 2 = 1) r.inexact (y = low + 1 / 2) (low + 1 / 2 < y) = false ∧ r.n = low) ∨
     (mode.goesUp neg (low % 2 = 1) r.inexact (y = low + 1 / 2) (low + 1 / 2 < y) = true ∧ r.n = low + 1)) := by
  obtain ⟨low, hlow, hhigh, hinexact, hn⟩ := h
  refine ⟨low, hlow, hhigh, hinexact, ?_⟩
  cases hg : mode.goesUp neg (low % 2 = 1) r.inexact (y = low + 1 / 2) (low + 1 / 2 < y) with
  | false => exact .inl ⟨rfl, by rw [hn, hg]; rfl⟩
  | true => exact .inr ⟨rfl, by rw [hn, hg]; rfl⟩

/-- A magnitude that differs from its rounding is inexact, and the other way round. -/
theorem RoundMode.IsUnits.inexact_iff (h : mode.IsUnits neg y r) : r.inexact = true ↔ (r.n : ℝ) ≠ y := by
  obtain ⟨low, hlow, hhigh, hinexact, ⟨-, hn⟩ | ⟨hg, hn⟩⟩ := h.cases
  · rw [hn, hinexact, ne_comm]
  · have hne : r.inexact = true := by
      by_contra hex
      have hy : y = low := by simpa [hinexact] using hex
      revert hg
      cases mode <;> simp [RoundMode.goesUp, hex, hy]
    refine iff_of_true hne ?_
    rw [hn]
    push_cast
    exact hhigh.ne'

theorem isUnits_rne (h : RoundMode.rne.IsUnits neg y r) :
    |(r.n : ℝ) - y| ≤ 1 / 2 ∧ (|(r.n : ℝ) - y| = 1 / 2 → r.n % 2 = 0) := by
  obtain ⟨low, hlow, hhigh, -, ⟨hg, hn⟩ | ⟨hg, hn⟩⟩ := h.cases
  · simp only [RoundMode.goesUp, Bool.or_eq_false_iff, Bool.and_eq_false_iff, decide_eq_false_iff_not, not_lt] at hg
    rw [hn, abs_sub_comm, abs_of_nonneg (by linarith)]
    refine ⟨by linarith, fun htie => ?_⟩
    have hodd := hg.2.resolve_left (not_not_intro (by linarith))
    omega
  · simp only [RoundMode.goesUp, Bool.or_eq_true, Bool.and_eq_true, decide_eq_true_eq] at hg
    have hmid : (low : ℝ) + 1 / 2 ≤ y := hg.elim le_of_lt fun ht => ht.1.ge
    rw [hn, Nat.cast_add, Nat.cast_one, abs_of_pos (by linarith)]
    refine ⟨by linarith, fun htie => ?_⟩
    have hodd := (hg.resolve_left (not_lt.mpr (by linarith))).2
    omega

theorem isUnits_rmm (h : RoundMode.rmm.IsUnits neg y r) :
    |(r.n : ℝ) - y| ≤ 1 / 2 ∧ (|(r.n : ℝ) - y| = 1 / 2 → y < r.n) := by
  obtain ⟨low, hlow, hhigh, -, ⟨hg, hn⟩ | ⟨hg, hn⟩⟩ := h.cases
  · simp only [RoundMode.goesUp, Bool.or_eq_false_iff, decide_eq_false_iff_not, not_lt] at hg
    have hlt := lt_of_le_of_ne hg.1 hg.2
    rw [hn, abs_sub_comm, abs_of_nonneg (by linarith)]
    exact ⟨by linarith, fun htie => by linarith⟩
  · simp only [RoundMode.goesUp, Bool.or_eq_true, decide_eq_true_eq] at hg
    have hmid : (low : ℝ) + 1 / 2 ≤ y := hg.elim le_of_lt fun ht => ht.ge
    rw [hn, Nat.cast_add, Nat.cast_one, abs_of_pos (by linarith)]
    exact ⟨by linarith, fun _ => hhigh⟩

/-- The modes that never go up for the sign deliver the units below. -/
theorem isUnits_truncated (h : mode.IsUnits neg y r)
    (hmode : mode = .rtz ∨ (mode = .rdn ∧ neg = false) ∨ (mode = .rup ∧ neg = true)) :
    (r.n : ℝ) ≤ y ∧ y < r.n + 1 := by
  obtain ⟨low, hlow, hhigh, -, ⟨hg, hn⟩ | ⟨hg, hn⟩⟩ := h.cases
  · rw [hn]
    exact ⟨hlow, hhigh⟩
  · rcases hmode with rfl | ⟨rfl, rfl⟩ | ⟨rfl, rfl⟩ <;> cases hg

/-- The modes that go up for the sign whenever there is a rest deliver the least units that are no less. -/
theorem isUnits_away (h : mode.IsUnits neg y r)
    (hmode : (mode = .rdn ∧ neg = true) ∨ (mode = .rup ∧ neg = false)) : y ≤ r.n ∧ (r.n : ℝ) < y + 1 := by
  obtain ⟨low, hlow, hhigh, hinexact, hcases⟩ := h.cases
  have hgo {odd tie above : Bool} : mode.goesUp neg odd r.inexact tie above = r.inexact := by
    rcases hmode with ⟨rfl, rfl⟩ | ⟨rfl, rfl⟩ <;> rfl
  rw [hgo] at hcases
  rcases hcases with ⟨hex, hn⟩ | ⟨hex, hn⟩
  · have hy : y = low := by simpa [hex] using hinexact
    rw [hn, hy]
    exact ⟨le_rfl, lt_add_one _⟩
  · have hne := lt_of_le_of_ne hlow (hinexact.mp hex).symm
    rw [hn]
    push_cast
    exact ⟨hhigh.le, by linarith⟩

/-- The units with the sign are the integer the mode rounds the number to. -/
theorem isInteger_of_isUnits (h : mode.IsUnits neg y r) (hy : 0 ≤ y) :
    mode.IsInteger (signed neg y) (signed neg (r.n : Int)) := by
  have hcast : ((signed neg (r.n : Int) : Int) : ℝ) = signed neg (r.n : ℝ) := by
    rw [signed_intCast, Int.cast_natCast]
  have hn0 : (0 : ℝ) ≤ r.n := Nat.cast_nonneg _
  unfold RoundMode.IsInteger
  rw [hcast, abs_signed_sub, abs_signed neg hn0, abs_signed neg hy]
  cases mode with
  | rne =>
    obtain ⟨hle, htie⟩ := isUnits_rne h
    refine ⟨hle, fun h2 => ?_⟩
    have heven := htie h2
    cases neg <;> simp only [signed, if_true, Bool.false_eq_true, if_false] <;> omega
  | rmm => exact isUnits_rmm h
  | rtz =>
    refine ⟨?_, isUnits_truncated h (.inl rfl)⟩
    have hmul : signed neg (r.n : ℝ) * signed neg y = r.n * y := by cases neg <;> simp [signed]
    rw [hmul]
    exact mul_nonneg hn0 hy
  | rdn => cases neg with
    | false => exact isUnits_truncated h (.inr (.inl ⟨rfl, rfl⟩))
    | true =>
      obtain ⟨hle, hlt⟩ := isUnits_away h (.inl ⟨rfl, rfl⟩)
      exact ⟨neg_le_neg hle, by simp only [signed, if_true]; linarith⟩
  | rup => cases neg with
    | false => exact isUnits_away h (.inr ⟨rfl, rfl⟩)
    | true =>
      obtain ⟨hle, hlt⟩ := isUnits_truncated h (.inr (.inr ⟨rfl, rfl⟩))
      exact ⟨neg_le_neg hle, by simp only [signed, if_true]; linarith⟩

end

end Sys2Proof.Machine
end

section
/-! PROOFS. Conversion of a number to an integer (spec/45_rv32f_rv64f.md R302). -/

namespace Sys2Proof.Machine

theorem Unrounded.represents_exact (m : Nat) (e : Int) :
    Unrounded.Represents ⟨m, e, false⟩ ((m : ℝ) * 2 ^ e) := by
  rw [Unrounded.Represents, if_neg Bool.false_ne_true]

theorem Datum.value_num_real (neg : Bool) (m : Nat) (e : Int) :
    ((Datum.num neg m e).value : ℝ) = signed neg ((m : ℝ) * 2 ^ e) := by
  rw [Datum.value_num]
  cases neg <;> simp [signFactor, signed]

theorem roundToInt_isInteger (mode : RoundMode) (neg : Bool) (m : Nat) (e : Int) :
    mode.IsInteger ((Datum.num neg m e).value : ℝ) (roundToInt mode neg m e).1 ∧
    ((roundToInt mode neg m e).2 = true ↔ ((roundToInt mode neg m e).1 : ℚ) ≠ (Datum.num neg m e).value) := by
  have hunits : mode.IsUnits neg ((m : ℝ) * 2 ^ e / 2 ^ (0 : Int)) (roundTo mode neg ⟨m, e, false⟩ 0) :=
    isUnits_roundTo (Unrounded.represents_exact m e) nofun
  rw [zpow_zero, div_one] at hunits
  have hvalue := Datum.value_num_real neg m e
  refine ⟨hvalue ▸ isInteger_of_isUnits hunits (by positivity), ?_⟩
  rw [← not_iff_not, not_not, ← Rat.cast_inj (α := ℝ), hvalue]
  change ¬ (roundTo mode neg ⟨m, e, false⟩ 0).inexact = true ↔ _
  rw [hunits.inexact_iff, not_not]
  cases neg <;> simp [roundToInt, signed]

section

variable {v : ℚ} {r : Int}

theorem isInteger_rdn (h : RoundMode.rdn.IsInteger v r) : r = ⌊v⌋ := by
  obtain ⟨hle, hlt⟩ := h
  exact (Int.floor_eq_iff.mpr ⟨by exact_mod_cast hle, by exact_mod_cast hlt⟩).symm

theorem isInteger_rup (h : RoundMode.rup.IsInteger v r) : r = ⌈v⌉ := by
  obtain ⟨hle, hlt⟩ := h
  have hle' : v ≤ r := by exact_mod_cast hle
  have hlt' : (r : ℚ) < v + 1 := by exact_mod_cast hlt
  exact (Int.ceil_eq_iff.mpr ⟨by linarith, hle'⟩).symm

theorem isInteger_rtz (h : RoundMode.rtz.IsInteger v r) : r = if 0 ≤ v then ⌊v⌋ else ⌈v⌉ := by
  obtain ⟨hsign, hle, hlt⟩ := h
  have hsign' : 0 ≤ (r : ℚ) * v := by exact_mod_cast hsign
  have hle' : |(r : ℚ)| ≤ |v| := by exact_mod_cast hle
  have hlt' : |v| < |(r : ℚ)| + 1 := by exact_mod_cast hlt
  split
  case isTrue hv =>
    have hr : 0 ≤ (r : ℚ) := by
      rcases hv.lt_or_eq with hpos | rfl
      · exact nonneg_of_mul_nonneg_left hsign' hpos
      · rw [abs_zero] at hle'
        exact (abs_nonpos_iff.mp hle').ge
    rw [abs_of_nonneg hr, abs_of_nonneg hv] at hle' hlt'
    exact (Int.floor_eq_iff.mpr ⟨hle', hlt'⟩).symm
  case isFalse hv =>
    have hneg : v < 0 := not_le.mp hv
    have hr : (r : ℚ) ≤ 0 := nonpos_of_mul_nonneg_left hsign' hneg
    rw [abs_of_nonpos hr, abs_of_neg hneg] at hle' hlt'
    exact (Int.ceil_eq_iff.mpr ⟨by linarith, by linarith⟩).symm

/-- The distance of the rationals is that of the reals. -/
theorem cast_distance (r : Int) (v : ℚ) : |(r : ℝ) - v| = ((|(r : ℚ) - v| : ℚ) : ℝ) := by push_cast; rfl

theorem isInteger_nearest {mode : RoundMode} (hmode : mode = .rne ∨ mode = .rmm) (h : mode.IsInteger v r) :
    |(r : ℚ) - v| ≤ 1 / 2 := by
  have hle : |(r : ℝ) - v| ≤ ((1 / 2 : ℚ) : ℝ) := by
    push_cast
    rcases hmode with rfl | rfl
    · exact h.1
    · exact h.1
  rwa [cast_distance, Rat.cast_le] at hle

theorem isInteger_tie {mode : RoundMode} (h : mode.IsInteger v r) (htie : |(r : ℚ) - v| = 1 / 2) :
    (mode = .rne → r % 2 = 0) ∧ (mode = .rmm → |v| < |(r : ℚ)|) := by
  have htie' : |(r : ℝ) - v| = 1 / 2 := by rw [cast_distance, htie]; norm_num
  refine ⟨?_, ?_⟩
  · rintro rfl
    exact h.2 htie'
  · rintro rfl
    exact_mod_cast h.2 htie'

end

/-- Settles O58: the rounded integer is the one of the mode, and the range and the flags go by it. -/
theorem conversionToIntegerSaturates : Obligations.ConversionToIntegerSaturates := by
  intro fmt mode t a
  refine ⟨fun ha => ?greatest, fun ha => ?least, fun ha => ?number⟩
  case greatest =>
    unfold Fmt.toInt
    rcases ha with ha | ha
    · obtain ⟨_, hd⟩ := Fmt.datum_of_gt (Fmt.isNaN_iff.mp ha)
      rw [hd]
    · rw [ha]; rfl
  case least => rw [Fmt.toInt, ha]; rfl
  case number =>
    obtain ⟨m, e, hd, -⟩ := Fmt.datum_of_lt (Fmt.isFinite_iff.mp ha)
    obtain ⟨hint, hinexact⟩ := roundToInt_isInteger mode (fmt.sign a) m e
    rw [Fmt.toInt, hd]
    have hflags : FlagSet.when (roundToInt mode (fmt.sign a) m e).2 .nx =
        if ((roundToInt mode (fmt.sign a) m e).1 : ℚ) = (Datum.num (fmt.sign a) m e).value then .none else .nx := by
      simp only [FlagSet.when, hinexact, ne_eq, ite_not]
    refine ⟨(roundToInt mode (fmt.sign a) m e).1, ?_, ?_, ?_, fun hmode => isInteger_nearest hmode hint,
      isInteger_tie hint, hflags ▸ rfl⟩
    · rintro rfl
      exact isInteger_rdn hint
    · rintro rfl
      exact isInteger_rup hint
    · rintro rfl
      exact isInteger_rtz hint

end Sys2Proof.Machine
end

section
/-! PROOFS. The integer multiples of the right unit round a real number to the numbers of a precision
(spec/45_rv32f_rv64f.md R293, R294). -/

namespace Sys2Proof.Machine

/-- `2^q` is the unit in the last place of `x` among the numbers of the format's precision with units from `low` up. -/
def Fmt.UnitPlace (fmt : Fmt) (low : Option Int) (x : ℝ) (q : Int) : Prop :=
  (∀ l ∈ low, l ≤ q) ∧ |x / 2 ^ q| < 2 ^ (fmt.fracBits + 1) ∧ (2 ^ fmt.fracBits ≤ |x / 2 ^ q| ∨ low = some q)

/-- The rounded integer is less than one unit away. -/
theorem RoundMode.IsInteger.dist_lt {mode : RoundMode} {y : ℝ} {n : Int} (h : mode.IsInteger y n) : |n - y| < 1 := by
  cases mode with
  | rne => exact h.1.trans_lt (by norm_num)
  | rmm => exact h.1.trans_lt (by norm_num)
  | rtz =>
    obtain ⟨hsign, hle, hlt⟩ := h
    rcases le_or_gt 0 y with hy | hy
    · have hn : (0 : ℝ) ≤ n := by
        rcases hy.lt_or_eq with hpos | rfl
        · exact nonneg_of_mul_nonneg_left hsign hpos
        · rw [abs_zero] at hle
          exact (abs_nonpos_iff.mp hle).ge
      rw [abs_of_nonneg hn, abs_of_nonneg hy] at hle hlt
      exact abs_lt.mpr ⟨by linarith, by linarith⟩
    · have hn : (n : ℝ) ≤ 0 := nonpos_of_mul_nonneg_left hsign hy
      rw [abs_of_nonpos hn, abs_of_neg hy] at hle hlt
      exact abs_lt.mpr ⟨by linarith, by linarith⟩
  | rdn => exact abs_lt.mpr ⟨by linarith [h.2], by linarith [h.1]⟩
  | rup => exact abs_lt.mpr ⟨by linarith [h.1], by linarith [h.2]⟩

section

variable {fmt : Fmt} {low : Option Int} {x : ℝ} {q : Int}

/-- A number with a unit below `2^q` is nearer to zero than all that is rounded at `2^q`. -/
theorem Fmt.UnitPlace.abs_lt_of_lt (hq : fmt.UnitPlace low x q) {n e : Int} (hn : |n| < 2 ^ (fmt.fracBits + 1))
    (he : ∀ l ∈ low, l ≤ e) (hlt : e < q) :
    |(n : ℝ) * 2 ^ e / 2 ^ q| < 2 ^ fmt.fracBits ∧ 2 ^ fmt.fracBits ≤ |x / 2 ^ q| := by
  obtain ⟨-, -, hlarge⟩ := hq
  have hlow : low ≠ some q := fun h => by have := he q h; omega
  have hn' : |(n : ℝ)| < 2 ^ (fmt.fracBits + 1) := by exact_mod_cast hn
  have hunit : (2 : ℝ) ^ e / 2 ^ q ≤ 1 / 2 := by
    rw [← zpow_sub₀ two_ne_zero, one_div, ← zpow_neg_one]
    exact zpow_le_zpow_right₀ one_le_two (by omega)
  refine ⟨?_, hlarge.resolve_right hlow⟩
  calc |(n : ℝ) * 2 ^ e / 2 ^ q| = |(n : ℝ)| * (2 ^ e / 2 ^ q) := by
        rw [mul_div_assoc, abs_mul, abs_of_pos (by positivity : (0 : ℝ) < 2 ^ e / 2 ^ q)]
    _ < 2 ^ (fmt.fracBits + 1) * (2 ^ e / 2 ^ q) := mul_lt_mul_of_pos_right hn' (by positivity)
    _ ≤ 2 ^ (fmt.fracBits + 1) * (1 / 2) := mul_le_mul_of_nonneg_left hunit (by positivity)
    _ = 2 ^ fmt.fracBits := by rw [pow_succ]; ring

/-- A number with a unit from `2^q` up is a multiple of `2^q`. -/
theorem mul_zpow_div_of_le (n : Int) {e : Int} (h : q ≤ e) :
    (n : ℝ) * 2 ^ e / 2 ^ q = ((n * 2 ^ (e - q).toNat : Int) : ℝ) := by
  rw [mul_div_assoc, ← zpow_sub₀ two_ne_zero, ← Int.toNat_of_nonneg (by omega : 0 ≤ e - q), zpow_natCast]
  push_cast
  rfl

/-- A number of the precision is a multiple of the unit of `x`, or nearer to zero than it. -/
theorem Fmt.UnitPlace.cases (hq : fmt.UnitPlace low x q) {u : ℝ} (hu : fmt.onGrid low u) :
    (∃ t : Int, u / 2 ^ q = t) ∨ (|u / 2 ^ q| < 2 ^ fmt.fracBits ∧ 2 ^ fmt.fracBits ≤ |x / 2 ^ q|) := by
  obtain ⟨n, e, hn, he, rfl⟩ := hu
  rcases le_or_gt q e with hle | hlt
  · exact .inl ⟨_, mul_zpow_div_of_le n hle⟩
  · exact .inr (hq.abs_lt_of_lt hn he hlt)

end

section

/-! In units of the last place, with `B` the least significand of full length. -/

variable {mode : RoundMode} {y : ℝ} {n B : Int}

theorem rounded_abs_le (hn : mode.IsInteger y n) (h : |y| < B) : |n| ≤ B := by
  have hd := abs_lt.mp hn.dist_lt
  obtain ⟨hl, hr⟩ := abs_lt.mp h
  have hlow : -B < n + 1 := by exact_mod_cast (by linarith : -(B : ℝ) < n + 1)
  have hhigh : n < B + 1 := by exact_mod_cast (by linarith : (n : ℝ) < B + 1)
  exact abs_le.mpr ⟨by omega, by omega⟩

/-- A significand of full length stays one. -/
theorem rounded_abs_ge (hn : mode.IsInteger y n) (h : B ≤ |y|) : B ≤ |n| := by
  have hd := (abs_sub_abs_le_abs_sub y n).trans_lt (abs_sub_comm y n ▸ hn.dist_lt)
  have hlt : B < |n| + 1 := by exact_mod_cast (by push_cast; linarith : (B : ℝ) < (|n| : Int) + 1)
  omega

/-- To nearest no integer is nearer, and one as near is a tie. -/
theorem nearest_integer (hn : |n - y| ≤ 1 / 2) (t : Int) :
    |n - y| ≤ |t - y| ∧ (|n - y| = |t - y| → t = n ∨ (|n - y| = 1 / 2 ∧ |t - y| = 1 / 2 ∧ |t - n| = 1)) := by
  rcases eq_or_ne t n with rfl | hne
  · exact ⟨le_rfl, fun _ => .inl rfl⟩
  · have hone : 1 ≤ |t - n| := Int.one_le_abs (sub_ne_zero.mpr hne)
    have hone' : (1 : ℝ) ≤ |(t : ℝ) - n| := by exact_mod_cast hone
    have htri : |(t : ℝ) - n| ≤ |t - y| + |n - y| := abs_sub_comm (n : ℝ) y ▸ abs_sub_le (t : ℝ) y n
    refine ⟨by linarith, fun heq => .inr ⟨by linarith, by linarith, ?_⟩⟩
    have htwo : |t - n| < 2 := by exact_mod_cast (by push_cast; linarith : ((|t - n| : Int) : ℝ) < 2)
    omega

/-- To nearest a number of less than full length is farther away from one of full length. -/
theorem nearest_lt_of_small (hn : |n - y| ≤ 1 / 2) {u : ℝ} (hu : |u| < B) (hy : B ≤ |y|) : |n - y| < |u - y| := by
  have hfar : |y| - |u| ≤ |u - y| := abs_sub_comm u y ▸ abs_sub_abs_le_abs_sub y u
  have hB : |(B : ℝ)| = B := abs_of_nonneg ((abs_nonneg u).trans hu.le)
  rcases le_or_gt 0 y with h0 | h0
  · have h := (nearest_integer hn B).1
    rw [abs_of_nonneg h0] at hy hfar
    rw [abs_sub_comm (B : ℝ), abs_of_nonneg (by linarith : 0 ≤ y - B)] at h
    linarith
  · have h := (nearest_integer hn (-B)).1
    rw [abs_of_neg h0] at hy hfar
    push_cast at h
    rw [abs_of_nonneg (by linarith : 0 ≤ -(B : ℝ) - y)] at h
    linarith

end

section

variable {fmt : Fmt} {low : Option Int} {x : ℝ} {q n : Int}

theorem Fmt.fracBits_pos (fmt : Fmt) : 0 < fmt.fracBits := by cases fmt <;> decide

/-- A significand that has just left its binade is a power of two, in the next. -/
theorem eq_two_mul_of_abs_eq (h : |n| = 2 ^ (fmt.fracBits + 1)) : ∃ k : Int, n = 2 * k ∧ |k| = 2 ^ fmt.fracBits := by
  rw [pow_succ] at h
  rcases abs_choice n with hn | hn
  · exact ⟨2 ^ fmt.fracBits, by omega, abs_of_pos (by positivity)⟩
  · exact ⟨-2 ^ fmt.fracBits, by omega, by rw [abs_neg, abs_of_pos (by positivity)]⟩

theorem two_mul_zpow (k q : Int) : ((2 * k : Int) : ℝ) * 2 ^ q = k * 2 ^ (q + 1) := by
  rw [zpow_add_one₀ two_ne_zero]
  push_cast
  ring

theorem onGrid_of_abs_le (hn : |n| ≤ 2 ^ (fmt.fracBits + 1)) (hlow : ∀ l ∈ low, l ≤ q) :
    fmt.onGrid low ((n : ℝ) * 2 ^ q) := by
  rcases hn.lt_or_eq with hlt | heq
  · exact ⟨n, q, hlt, hlow, rfl⟩
  · obtain ⟨k, rfl, hk⟩ := eq_two_mul_of_abs_eq heq
    refine ⟨k, q + 1, ?_, fun l hl => (hlow l hl).trans (by omega), two_mul_zpow k q⟩
    rw [hk]
    exact pow_lt_pow_right₀ one_lt_two (Nat.lt_succ_self _)

theorem evenOnGrid_of_even (hn : |n| ≤ 2 ^ (fmt.fracBits + 1)) (hlow : ∀ l ∈ low, l ≤ q)
    (hfull : 2 ^ fmt.fracBits ≤ |n| ∨ low = some q) (heven : n % 2 = 0) :
    fmt.evenOnGrid low ((n : ℝ) * 2 ^ q) := by
  rcases hn.lt_or_eq with hlt | heq
  · exact ⟨n, q, hlt, hlow, rfl, heven, hfull⟩
  · obtain ⟨k, rfl, hk⟩ := eq_two_mul_of_abs_eq heq
    refine ⟨k, q + 1, ?_, fun l hl => (hlow l hl).trans (by omega), two_mul_zpow k q, ?_, .inl hk.ge⟩
    · rw [hk]
      exact pow_lt_pow_right₀ one_lt_two (Nat.lt_succ_self _)
    · have hdvd : (2 : Int) ∣ |k| := hk ▸ dvd_pow_self 2 fmt.fracBits_pos.ne'
      exact Int.emod_eq_zero_of_dvd ((dvd_abs 2 k).mp hdvd)

/-- Distances in units of the last place. -/
theorem abs_sub_scaled (u x : ℝ) (q : Int) : |u - x| = |u / 2 ^ q - x / 2 ^ q| * 2 ^ q := by
  have hw : (0 : ℝ) < 2 ^ q := by positivity
  rw [← sub_div, abs_div, abs_of_pos hw, div_mul_cancel₀ _ hw.ne']

theorem abs_scaled (u : ℝ) (q : Int) : |u| = |u / 2 ^ q| * 2 ^ q := by
  have hw : (0 : ℝ) < 2 ^ q := by positivity
  rw [abs_div, abs_of_pos hw, div_mul_cancel₀ _ hw.ne']

theorem le_iff_scaled (u v : ℝ) (q : Int) : u ≤ v ↔ u / 2 ^ q ≤ v / 2 ^ q :=
  (div_le_div_iff_of_pos_right (by positivity)).symm

theorem intCast_mul_div (n q : Int) : (n : ℝ) * 2 ^ q / 2 ^ q = n := mul_div_cancel_right₀ _ (by positivity)

variable {mode : RoundMode}

theorem Fmt.UnitPlace.rounded_le (hq : fmt.UnitPlace low x q) (hn : mode.IsInteger (x / 2 ^ q) n) :
    |n| ≤ 2 ^ (fmt.fracBits + 1) := by
  have h := hq.2.1
  exact rounded_abs_le hn (by push_cast; exact h)

theorem rounded_full (hn : mode.IsInteger (x / 2 ^ q) n) (h : 2 ^ fmt.fracBits ≤ |x / 2 ^ q|) :
    2 ^ fmt.fracBits ≤ |n| :=
  rounded_abs_ge hn (by push_cast; exact h)

theorem Fmt.UnitPlace.onGrid_rounded (hq : fmt.UnitPlace low x q) (hn : mode.IsInteger (x / 2 ^ q) n) :
    fmt.onGrid low ((n : ℝ) * 2 ^ q) := onGrid_of_abs_le (hq.rounded_le hn) hq.1

/-- To nearest no number of the precision is nearer, and one as near is a tie. -/
theorem Fmt.UnitPlace.nearest (hq : fmt.UnitPlace low x q) (hhalf : |n - x / 2 ^ q| ≤ 1 / 2) {u : ℝ}
    (hu : fmt.onGrid low u) :
    |(n : ℝ) * 2 ^ q - x| ≤ |u - x| ∧ (|(n : ℝ) * 2 ^ q - x| = |u - x| → ∃ t : Int, u / 2 ^ q = t ∧
      (t = n ∨ (|n - x / 2 ^ q| = 1 / 2 ∧ |t - x / 2 ^ q| = 1 / 2 ∧ |t - n| = 1))) := by
  have hw : (0 : ℝ) < 2 ^ q := by positivity
  rw [abs_sub_scaled _ x q, abs_sub_scaled u x q, intCast_mul_div, mul_le_mul_iff_left₀ hw, mul_left_inj' hw.ne']
  rcases hq.cases hu with ⟨t, ht⟩ | ⟨hsmall, hlarge⟩
  · obtain ⟨hle, htie⟩ := nearest_integer hhalf t
    rw [ht]
    exact ⟨hle, fun heq => ⟨t, rfl, htie heq⟩⟩
  · have hlt := nearest_lt_of_small (B := 2 ^ fmt.fracBits) hhalf (by push_cast; exact hsmall)
      (by push_cast; exact hlarge)
    exact ⟨hlt.le, fun heq => absurd heq hlt.ne⟩

theorem eq_of_scaled_eq {u : ℝ} (h : u / 2 ^ q = n) : u = n * 2 ^ q := (div_eq_iff (by positivity)).mp h

/-- A tie that rounds to the larger magnitude has no larger neighbour. -/
theorem abs_le_of_tie {y : ℝ} {t : Int} (hn : |n - y| = 1 / 2) (hlt : |y| < |(n : ℝ)|) (ht : |t - y| = 1 / 2) :
    |(t : ℝ)| ≤ |(n : ℝ)| := by
  have htri : |(t : ℝ)| ≤ |t - y| + |y| := by simpa using abs_add_le (t - y) y
  have hone : (1 : ℝ) ≤ |(n : ℝ)| := by
    have hne : n ≠ 0 := by
      rintro rfl
      rw [Int.cast_zero, abs_zero] at hlt
      exact absurd hlt (abs_nonneg y).not_gt
    exact_mod_cast Int.one_le_abs hne
  have hgap : |(n : ℝ)| - |y| = 1 / 2 := by
    rcases abs_cases (n : ℝ) with ⟨h1, h1'⟩ | ⟨h1, h1'⟩ <;> rcases abs_cases y with ⟨h2, h2'⟩ | ⟨h2, h2'⟩ <;>
      rcases abs_cases ((n : ℝ) - y) with ⟨h3, -⟩ | ⟨h3, -⟩ <;> linarith
  linarith

theorem isRounding_rne (hq : fmt.UnitPlace low x q) (hn : RoundMode.rne.IsInteger (x / 2 ^ q) n) :
    IsRounding fmt low .rne x (n * 2 ^ q) := by
  refine ⟨hq.onGrid_rounded hn, fun u hu => ?_⟩
  obtain ⟨hle, htie⟩ := hq.nearest hn.1 hu
  refine ⟨hle, fun heq => ?_⟩
  obtain ⟨t, ht, rfl | ⟨hhalf, -, -⟩⟩ := htie heq
  · exact .inl (eq_of_scaled_eq ht)
  · exact .inr (evenOnGrid_of_even (hq.rounded_le hn) hq.1 (hq.2.2.imp_left (rounded_full hn)) (hn.2 hhalf))

theorem isRounding_rmm (hq : fmt.UnitPlace low x q) (hn : RoundMode.rmm.IsInteger (x / 2 ^ q) n) :
    IsRounding fmt low .rmm x (n * 2 ^ q) := by
  refine ⟨hq.onGrid_rounded hn, fun u hu => ?_⟩
  obtain ⟨hle, htie⟩ := hq.nearest hn.1 hu
  refine ⟨hle, fun heq => ?_⟩
  obtain ⟨t, ht, rfl | ⟨hhalf, hthalf, -⟩⟩ := htie heq
  · rw [eq_of_scaled_eq ht]
  · rw [abs_scaled u q, abs_scaled (n * 2 ^ q) q, intCast_mul_div, ht]
    exact mul_le_mul_of_nonneg_right (abs_le_of_tie hhalf (hn.2 hhalf) hthalf) (by positivity)

theorem isRounding_rtz (hq : fmt.UnitPlace low x q) (hn : RoundMode.rtz.IsInteger (x / 2 ^ q) n) :
    IsRounding fmt low .rtz x (n * 2 ^ q) := by
  have hw : (0 : ℝ) < 2 ^ q := by positivity
  obtain ⟨hsign, hle, hlt⟩ := id hn
  refine ⟨hq.onGrid_rounded hn, ?_, ?_, fun u hu hux => ?_⟩
  · have hx : (n : ℝ) * 2 ^ q * x = n * (x / 2 ^ q) * (2 ^ q) ^ 2 := by field_simp
    rw [hx]
    positivity
  · rw [abs_scaled x q, abs_scaled (n * 2 ^ q) q, intCast_mul_div]
    exact mul_le_mul_of_nonneg_right hle hw.le
  · rw [abs_scaled u q, abs_scaled x q, mul_le_mul_iff_left₀ hw] at hux
    rw [abs_scaled u q, abs_scaled (n * 2 ^ q) q, intCast_mul_div, mul_le_mul_iff_left₀ hw]
    rcases hq.cases hu with ⟨t, ht⟩ | ⟨hsmall, hlarge⟩
    · rw [ht] at hux ⊢
      have htn : |t| < |n| + 1 := by exact_mod_cast (by push_cast; linarith : ((|t| : Int) : ℝ) < (|n| : Int) + 1)
      exact_mod_cast Int.lt_add_one_iff.mp htn
    · have hfull : (2 : ℝ) ^ fmt.fracBits ≤ |(n : ℝ)| := by exact_mod_cast rounded_full hn hlarge
      exact hsmall.le.trans hfull

theorem isRounding_rdn (hq : fmt.UnitPlace low x q) (hn : RoundMode.rdn.IsInteger (x / 2 ^ q) n) :
    IsRounding fmt low .rdn x (n * 2 ^ q) := by
  obtain ⟨hle, hlt⟩ := id hn
  refine ⟨hq.onGrid_rounded hn, ?_, fun u hu hux => ?_⟩
  · rwa [le_iff_scaled _ _ q, intCast_mul_div]
  · rw [le_iff_scaled _ _ q] at hux
    rw [le_iff_scaled _ _ q, intCast_mul_div]
    rcases hq.cases hu with ⟨t, ht⟩ | ⟨hsmall, hlarge⟩
    · rw [ht] at hux ⊢
      have htn : t < n + 1 := by exact_mod_cast (by linarith : (t : ℝ) < n + 1)
      exact_mod_cast Int.lt_add_one_iff.mp htn
    · obtain ⟨hlow, hhigh⟩ := abs_lt.mp hsmall
      have hpos : (2 : ℝ) ^ fmt.fracBits ≤ x / 2 ^ q := (le_abs.mp hlarge).resolve_right fun h => by linarith
      have hfull : (2 : Int) ^ fmt.fracBits < n + 1 := by exact_mod_cast hpos.trans_lt hlt
      have hfull' : (2 : ℝ) ^ fmt.fracBits ≤ n := by exact_mod_cast Int.lt_add_one_iff.mp hfull
      linarith

theorem isRounding_rup (hq : fmt.UnitPlace low x q) (hn : RoundMode.rup.IsInteger (x / 2 ^ q) n) :
    IsRounding fmt low .rup x (n * 2 ^ q) := by
  obtain ⟨hle, hlt⟩ := id hn
  refine ⟨hq.onGrid_rounded hn, ?_, fun u hu hux => ?_⟩
  · rwa [le_iff_scaled _ _ q, intCast_mul_div]
  · rw [le_iff_scaled _ _ q] at hux
    rw [le_iff_scaled _ _ q, intCast_mul_div]
    rcases hq.cases hu with ⟨t, ht⟩ | ⟨hsmall, hlarge⟩
    · rw [ht] at hux ⊢
      have htn : n < t + 1 := by exact_mod_cast (by linarith : (n : ℝ) < t + 1)
      exact_mod_cast Int.lt_add_one_iff.mp htn
    · obtain ⟨hlow, hhigh⟩ := abs_lt.mp hsmall
      have hneg : (2 : ℝ) ^ fmt.fracBits ≤ -(x / 2 ^ q) := (le_abs.mp hlarge).resolve_left fun h => by linarith
      have hfull : n < -(2 : Int) ^ fmt.fracBits + 1 := by
        exact_mod_cast (by push_cast; linarith : (n : ℝ) < ((-2 ^ fmt.fracBits : Int) : ℝ) + 1)
      have hfull' : (n : ℝ) ≤ -2 ^ fmt.fracBits := by exact_mod_cast Int.lt_add_one_iff.mp hfull
      linarith

/-- The multiple of the unit in the last place that a mode rounds to is the number of the precision it rounds to. -/
theorem isRounding_of_isInteger (hq : fmt.UnitPlace low x q) (hn : mode.IsInteger (x / 2 ^ q) n) :
    IsRounding fmt low mode x (n * 2 ^ q) := by
  cases mode with
  | rne => exact isRounding_rne hq hn
  | rtz => exact isRounding_rtz hq hn
  | rdn => exact isRounding_rdn hq hn
  | rup => exact isRounding_rup hq hn
  | rmm => exact isRounding_rmm hq hn

end

end Sys2Proof.Machine
end

section
/-! PROOFS. A number that is not zero has one rounding (spec/45_rv32f_rv64f.md R294). -/

namespace Sys2Proof.Machine

section

variable {fmt : Fmt} {low : Option Int} {x v w : ℝ} {q n : Int}

/-- Numbers of one magnitude on the side of a third are one. -/
theorem eq_of_abs_eq_of_sign (hx : x ≠ 0) (hv : 0 ≤ v * x) (hw : 0 ≤ w * x) (h : |w| = |v|) : w = v := by
  rcases abs_eq_abs.mp h with heq | heq
  · exact heq
  · have hzero : v * x = 0 := le_antisymm (by rw [heq] at hw; linarith) hv
    rw [heq, (mul_eq_zero.mp hzero).resolve_right hx, neg_zero]

/-- Numbers of one magnitude and one distance from a third are one. -/
theorem eq_of_abs_eq_of_dist (hx : x ≠ 0) (hd : |w - x| = |v - x|) (h : |w| = |v|) : w = v := by
  rcases abs_eq_abs.mp h with heq | heq
  · exact heq
  · have hsq : (w - x) ^ 2 = (v - x) ^ 2 := sq_eq_sq_iff_abs_eq_abs _ _ |>.mpr hd
    have hzero : v * x = 0 := by rw [heq] at hsq; linarith
    rw [heq, (mul_eq_zero.mp hzero).resolve_right hx, neg_zero]

/-- A multiple of the unit in the last place that has an even significand is an even multiple, unless it is nearer to
zero than all that is rounded there. -/
theorem Fmt.UnitPlace.even_of_evenOnGrid (hq : fmt.UnitPlace low x q) {t : Int} (hw : fmt.evenOnGrid low w)
    (ht : w / 2 ^ q = t) (hnear : ¬ (|w / 2 ^ q| < 2 ^ fmt.fracBits ∧ 2 ^ fmt.fracBits ≤ |x / 2 ^ q|)) :
    t % 2 = 0 := by
  obtain ⟨k, e, hk, he, rfl, heven, -⟩ := hw
  rcases le_or_gt q e with hle | hlt
  · rw [mul_zpow_div_of_le k hle] at ht
    have hkt : k * 2 ^ (e - q).toNat = t := by exact_mod_cast ht
    rw [← hkt, Int.mul_emod, heven, zero_mul, Int.zero_emod]
  · exact absurd (hq.abs_lt_of_lt hk he hlt) hnear

theorem isRounding_rne_unique (hq : fmt.UnitPlace low x q) (hn : RoundMode.rne.IsInteger (x / 2 ^ q) n)
    (h : IsRounding fmt low .rne x w) : w = n * 2 ^ q := by
  have hv := isRounding_rne hq hn
  have heq : |(n : ℝ) * 2 ^ q - x| = |w - x| := le_antisymm (hv.2 w h.1).1 (h.2 _ hv.1).1
  obtain ⟨t, ht, rfl | ⟨hhalf, hthalf, hone⟩⟩ := (hq.nearest hn.1 h.1).2 heq
  · exact eq_of_scaled_eq ht
  · rcases (h.2 _ hv.1).2 heq.symm with hvw | heven
    · exact hvw.symm
    · have hnear : ¬ (|w / 2 ^ q| < 2 ^ fmt.fracBits ∧ 2 ^ fmt.fracBits ≤ |x / 2 ^ q|) := by
        rintro ⟨hsmall, hlarge⟩
        have hlt := nearest_lt_of_small (B := 2 ^ fmt.fracBits) hn.1 (by push_cast; exact hsmall)
          (by push_cast; exact hlarge)
        rw [ht, hhalf, hthalf] at hlt
        exact lt_irrefl _ hlt
      have ht2 := hq.even_of_evenOnGrid heven ht hnear
      have hn2 := hn.2 hhalf
      rcases abs_eq (zero_le_one' Int) |>.mp hone with h1 | h1 <;> omega

/-- A number that is not zero is rounded to one number. -/
theorem isRounding_unique {mode : RoundMode} (hq : fmt.UnitPlace low x q) (hn : mode.IsInteger (x / 2 ^ q) n)
    (hx : x ≠ 0) (h : IsRounding fmt low mode x w) : w = n * 2 ^ q := by
  have hv := isRounding_of_isInteger hq hn
  cases mode with
  | rne => exact isRounding_rne_unique hq hn h
  | rtz =>
    exact eq_of_abs_eq_of_sign hx hv.2.1 h.2.1
      (le_antisymm (hv.2.2.2 w h.1 h.2.2.1) (h.2.2.2 _ hv.1 hv.2.2.1))
  | rdn => exact le_antisymm (hv.2.2 w h.1 h.2.1) (h.2.2 _ hv.1 hv.2.1)
  | rup => exact le_antisymm (h.2.2 _ hv.1 hv.2.1) (hv.2.2 w h.1 h.2.1)
  | rmm =>
    have hd : |w - x| = |(n : ℝ) * 2 ^ q - x| := le_antisymm (h.2 _ hv.1).1 (hv.2 w h.1).1
    exact eq_of_abs_eq_of_dist hx hd (le_antisymm ((hv.2 w h.1).2 hd.symm) ((h.2 _ hv.1).2 hd))

end

end Sys2Proof.Machine
end

section
/-! PROOFS. The rounding to a format delivers what the mode asks for (spec/45_rv32f_rv64f.md R293, R296). -/

namespace Sys2Proof.Machine

/-! ### The parts of the rounding -/

/-- The exponent of the leading bit. -/
def Unrounded.top (u : Unrounded) : Int := u.e + (Nat.log2 u.m : Int)

/-- The unit in the last place with no bound of the exponent. -/
def Fmt.freePlace (fmt : Fmt) (u : Unrounded) : Int := u.top - fmt.fracBits

/-- The unit in the last place, at least that of a subnormal. -/
def Fmt.unitPlace (fmt : Fmt) (u : Unrounded) : Int := max (fmt.freePlace u) fmt.quantumMin

/-- The magnitude bits of the rounded number, if the exponent range had no upper bound. -/
def Fmt.roundedMagnitude (fmt : Fmt) (mode : RoundMode) (neg : Bool) (u : Unrounded) : Nat :=
  (fmt.unitPlace u - fmt.quantumMin).toNat * 2 ^ fmt.fracBits + (roundTo mode neg u (fmt.unitPlace u)).n

/-- Rounded with no bound of the exponent the number is below the least normal one. -/
def Fmt.isTiny (fmt : Fmt) (mode : RoundMode) (neg : Bool) (u : Unrounded) : Bool :=
  u.top < fmt.emin &&
    !(u.top = fmt.emin - 1 && (roundTo mode neg u (fmt.freePlace u)).n = 2 ^ (fmt.fracBits + 1))

section

variable {fmt : Fmt} {mode : RoundMode} {neg : Bool} {u : Unrounded}

theorem Fmt.round_of_overflow (h : fmt.infMagnitude ≤ fmt.roundedMagnitude mode neg u) :
    fmt.round mode neg u = ⟨fmt.overflowBits mode neg, .of ||| .nx⟩ := if_pos h

theorem Fmt.round_of_lt (h : fmt.roundedMagnitude mode neg u < fmt.infMagnitude) :
    fmt.round mode neg u = ⟨fmt.ofMagnitude neg (fmt.roundedMagnitude mode neg u),
      .when (roundTo mode neg u (fmt.unitPlace u)).inexact .nx |||
      .when (fmt.isTiny mode neg u && (roundTo mode neg u (fmt.unitPlace u)).inexact) .uf⟩ := if_neg h.not_ge

end

end Sys2Proof.Machine
end

section
/-! PROOFS. The rounding of a represented number delivers what the mode asks for, with its flags
(spec/45_rv32f_rv64f.md R293, R296). -/

namespace Sys2Proof.Machine

/-- The sign and the unrounded magnitude are those of `x`, with enough places for the format. -/
structure Fmt.Presents (fmt : Fmt) (neg : Bool) (u : Unrounded) (x : ℝ) : Prop where
  /-- The sign. -/
  sign : neg = true ↔ x < 0
  /-- The magnitude. -/
  represents : u.Represents |x|
  /-- There is a leading bit. -/
  ne_zero : u.m ≠ 0
  /-- A nonzero part below the unit is below the last place too. -/
  enough : u.more = true → 2 ^ (fmt.fracBits + 1) ≤ u.m

section

variable {fmt : Fmt} {mode : RoundMode} {neg : Bool} {u : Unrounded} {x : ℝ}

theorem Unrounded.Represents.bounds (h : u.Represents x) : (u.m : ℝ) * 2 ^ u.e ≤ x ∧ x < (u.m + 1) * 2 ^ u.e := by
  have hw : (0 : ℝ) < 2 ^ u.e := by positivity
  rw [Unrounded.Represents] at h
  split at h
  · exact ⟨h.1.le, h.2⟩
  · exact ⟨h.ge, h ▸ mul_lt_mul_of_pos_right (lt_add_one _) hw⟩

theorem abs_rounded (neg : Bool) (n : Nat) (q : Int) : |((signed neg (n : Int) : Int) : ℝ) * 2 ^ q| = n * 2 ^ q := by
  rw [signed_intCast, ← signed_mul, Int.cast_natCast, abs_signed neg (by positivity)]

theorem Fmt.freePlace_le (fmt : Fmt) (u : Unrounded) : fmt.freePlace u ≤ fmt.unitPlace u := le_max_left _ _

/-- The magnitude of an infinity would be the least power of two out of range. -/
theorem Fmt.magnitudeValue_infMagnitude (fmt : Fmt) :
    (fmt.magnitudeValue fmt.infMagnitude : ℝ) = 2 ^ (fmt.bias + 1) := by
  have hmax := fmt.expMax_eq
  have hunits : fmt.infMagnitude = (fmt.expMax - 1) * 2 ^ fmt.fracBits + 2 ^ fmt.fracBits := by
    rw [← Nat.succ_mul, Nat.succ_eq_add_one, Nat.sub_add_cancel fmt.expMax_pos, Fmt.infMagnitude]
  have hexp : (fmt.fracBits : Int) + (fmt.quantumMin + (fmt.expMax - 1 : Nat)) = (fmt.bias + 1 : Nat) := by
    rw [Fmt.quantumMin, Fmt.emin]
    omega
  rw [hunits, Fmt.magnitudeValue_units (.inr le_rfl) (pow_le_pow_right₀ one_le_two (Nat.le_succ _))]
  push_cast
  rw [← zpow_natCast, ← zpow_natCast, ← zpow_add₀ two_ne_zero, hexp]

theorem Fmt.magnitudeValue_maxFinite (fmt : Fmt) : (fmt.magnitudeValue (fmt.infMagnitude - 1) : ℝ) =
    (2 ^ (fmt.fracBits + 1) - 1) * 2 ^ ((fmt.bias : Int) - fmt.fracBits) := by
  have hmax := fmt.expMax_eq
  have hbias : 0 < fmt.bias := by cases fmt <;> decide
  have hone : 1 ≤ 2 ^ (fmt.fracBits + 1) := Nat.one_le_two_pow
  have hunits : fmt.infMagnitude - 1 = (fmt.expMax - 2) * 2 ^ fmt.fracBits + (2 ^ (fmt.fracBits + 1) - 1) := by
    have hsplit : fmt.expMax = fmt.expMax - 2 + 2 := by omega
    rw [Fmt.infMagnitude, hsplit, Nat.add_mul, pow_succ, Nat.mul_comm _ 2, Nat.add_sub_cancel]
    rw [pow_succ] at hone
    omega
  have hfull : 2 ^ fmt.fracBits ≤ 2 ^ (fmt.fracBits + 1) - 1 := by
    have := Nat.one_le_two_pow (n := fmt.fracBits)
    rw [pow_succ]
    omega
  have hexp : fmt.quantumMin + (fmt.expMax - 2 : Nat) = (fmt.bias : Int) - fmt.fracBits := by
    rw [Fmt.quantumMin, Fmt.emin]
    omega
  rw [hunits, Fmt.magnitudeValue_units (.inr hfull) (Nat.sub_le _ _), hexp, Nat.cast_sub hone]
  push_cast
  rfl

/-- A significand from full length up to the next binade stands for a number below the least normal one. -/
theorem isTiny_iff_lt (hfull : 2 ^ fmt.fracBits ≤ (roundTo mode neg u (fmt.freePlace u)).n)
    (hle : (roundTo mode neg u (fmt.freePlace u)).n ≤ 2 ^ (fmt.fracBits + 1)) : fmt.isTiny mode neg u = true ↔
    ((roundTo mode neg u (fmt.freePlace u)).n : ℝ) * 2 ^ fmt.freePlace u < 2 ^ fmt.emin := by
  have hw : (0 : ℝ) < 2 ^ fmt.freePlace u := by positivity
  have htop : fmt.freePlace u + fmt.fracBits = u.top := by rw [Fmt.freePlace, Int.sub_add_cancel]
  have hpow (k : Nat) : (2 : ℝ) ^ k * 2 ^ fmt.freePlace u = 2 ^ (fmt.freePlace u + k) := by
    rw [zpow_add₀ two_ne_zero, zpow_natCast, mul_comm]
  have hlow : (2 : ℝ) ^ u.top ≤ (roundTo mode neg u (fmt.freePlace u)).n * 2 ^ fmt.freePlace u := by
    rw [← htop, ← hpow]
    exact mul_le_mul_of_nonneg_right (by exact_mod_cast hfull) hw.le
  have htop' : fmt.freePlace u + (fmt.fracBits + 1 : Nat) = u.top + 1 := by push_cast; omega
  have hhigh : ((roundTo mode neg u (fmt.freePlace u)).n : ℝ) * 2 ^ fmt.freePlace u < 2 ^ (u.top + 1) ↔
      (roundTo mode neg u (fmt.freePlace u)).n < 2 ^ (fmt.fracBits + 1) := by
    rw [← htop', ← hpow, mul_lt_mul_iff_left₀ hw]
    norm_cast
  have hhigh' : ((roundTo mode neg u (fmt.freePlace u)).n : ℝ) * 2 ^ fmt.freePlace u ≤ 2 ^ (u.top + 1) := by
    rw [← htop', ← hpow]
    exact mul_le_mul_of_nonneg_right (by exact_mod_cast hle) hw.le
  simp only [Fmt.isTiny, Bool.and_eq_true, decide_eq_true_eq, Bool.not_eq_true', Bool.and_eq_false_iff,
    decide_eq_false_iff_not]
  rcases lt_trichotomy (u.top + 1) fmt.emin with hlt | heq | hgt
  · refine iff_of_true ⟨by omega, .inl (by omega)⟩ (hhigh'.trans_lt (zpow_lt_zpow_right₀ one_lt_two hlt))
  · rw [← heq, hhigh]
    omega
  · refine iff_of_false (by omega) (not_lt.mpr (le_trans ?_ hlow))
    exact zpow_le_zpow_right₀ one_le_two (by omega)

/-- What overflow delivers, by what the mode says for the sign. -/
theorem overflowBits_cases (hsign : neg = true ↔ x < 0) (hx : x ≠ 0) :
    (mode.overflowsToInfinity x ∧ fmt.overflowBits mode neg = fmt.infinity neg) ∨
    (¬ mode.overflowsToInfinity x ∧ fmt.overflowBits mode neg = fmt.maxFinite neg) := by
  have hpos : neg = false ↔ 0 < x := by
    rw [← Bool.not_eq_true, hsign, not_lt, hx.symm.le_iff_lt]
  cases mode with
  | rne => exact .inl ⟨trivial, rfl⟩
  | rmm => exact .inl ⟨trivial, rfl⟩
  | rtz => exact .inr ⟨not_false, rfl⟩
  | rdn => cases neg with
    | false => exact .inr ⟨fun hlt => Bool.false_ne_true (hsign.mpr hlt), rfl⟩
    | true => exact .inl ⟨hsign.mp rfl, rfl⟩
  | rup => cases neg with
    | false => exact .inl ⟨hpos.mp rfl, rfl⟩
    | true => exact .inr ⟨fun hgt => Bool.noConfusion (hpos.mpr hgt), rfl⟩

/-- A magnitude below infinity is a number with its sign and value. -/
theorem Fmt.finite_ofMagnitude {mag : Nat} (hmag : mag < fmt.infMagnitude) :
    (fmt.datum (fmt.ofMagnitude neg mag)).isFinite = true ∧ fmt.sign (fmt.ofMagnitude neg mag) = neg ∧
    (fmt.datum (fmt.ofMagnitude neg mag)).value = signed neg (fmt.magnitudeValue mag) := by
  have hlt := hmag.trans fmt.infMagnitude_lt
  have hfin : (fmt.datum (fmt.ofMagnitude neg mag)).isFinite = true :=
    Fmt.isFinite_iff.mpr ((Fmt.magnitude_ofMagnitude hlt).symm ▸ hmag)
  refine ⟨hfin, Fmt.sign_ofMagnitude hlt, ?_⟩
  rw [Fmt.value_of_finite hfin, Fmt.sign_ofMagnitude hlt, Fmt.magnitude_ofMagnitude hlt]
  cases neg <;> simp [signFactor, signed]

theorem ratCast_signed (neg : Bool) (v : ℚ) : ((signed neg v : ℚ) : ℝ) = signed neg (v : ℝ) := by
  cases neg <;> simp [signed]

namespace Fmt.Presents

variable (h : fmt.Presents neg u x)

include h

/-- The leading bit stands at `top`. -/
theorem two_pow_top_le : 2 ^ u.top ≤ |x| := by
  have hlog : (2 : ℝ) ^ Nat.log2 u.m ≤ u.m := by exact_mod_cast Nat.log2_self_le h.ne_zero
  refine le_trans ?_ h.represents.bounds.1
  rw [Unrounded.top, zpow_add₀ two_ne_zero, zpow_natCast, mul_comm]
  exact mul_le_mul_of_nonneg_right hlog (by positivity)

theorem lt_two_pow_top : |x| < 2 ^ (u.top + 1) := by
  have hlog : (u.m : ℝ) + 1 ≤ 2 ^ (Nat.log2 u.m + 1) := by exact_mod_cast Nat.lt_log2_self
  refine lt_of_lt_of_le h.represents.bounds.2 ?_
  rw [Unrounded.top, add_assoc, zpow_add₀ two_ne_zero, mul_comm ((2 : ℝ) ^ u.e)]
  exact mul_le_mul_of_nonneg_right (by exact_mod_cast hlog) (by positivity)

theorem magnitude_pos : 0 < |x| := lt_of_lt_of_le (by positivity) h.two_pow_top_le

theorem value_ne_zero : x ≠ 0 := abs_pos.mp h.magnitude_pos

theorem eq_signed : x = signed neg |x| := by
  cases neg with
  | false =>
    have hx : 0 ≤ x := not_lt.mp fun hlt => Bool.false_ne_true (h.sign.mpr hlt)
    exact (abs_of_nonneg hx).symm
  | true =>
    have hx : x < 0 := h.sign.mp rfl
    exact (by rw [abs_of_neg hx, neg_neg] : x = -|x|)

/-- Between the powers of two around `x`, its significand has full length. -/
theorem unitPlace_free : fmt.UnitPlace none x (fmt.freePlace u) := by
  have hw : (0 : ℝ) < 2 ^ fmt.freePlace u := by positivity
  rw [Fmt.UnitPlace, abs_div, abs_of_pos hw, div_lt_iff₀ hw, le_div_iff₀ hw, ← zpow_natCast, ← zpow_natCast,
    ← zpow_add₀ two_ne_zero, ← zpow_add₀ two_ne_zero]
  have htop : ((fmt.fracBits : Nat) : Int) + fmt.freePlace u = u.top := by rw [Fmt.freePlace]; omega
  have htop' : ((fmt.fracBits + 1 : Nat) : Int) + fmt.freePlace u = u.top + 1 := by rw [Fmt.freePlace]; omega
  rw [htop, htop']
  exact ⟨nofun, h.lt_two_pow_top, .inl h.two_pow_top_le⟩

theorem unitPlace_bounded : fmt.UnitPlace (some fmt.quantumMin) x (fmt.unitPlace u) := by
  obtain ⟨-, hlt, hfull⟩ := h.unitPlace_free
  rcases le_total fmt.quantumMin (fmt.freePlace u) with hle | hle
  · rw [Fmt.unitPlace, max_eq_left hle]
    exact ⟨fun l hl => Option.some.inj hl ▸ hle, hlt, .inl (hfull.resolve_right nofun)⟩
  · rw [Fmt.unitPlace, max_eq_right hle]
    refine ⟨fun l hl => (Option.some.inj hl).ge, lt_of_le_of_lt ?_ hlt, .inr rfl⟩
    rw [abs_div, abs_div, abs_of_pos (by positivity : (0 : ℝ) < 2 ^ fmt.quantumMin),
      abs_of_pos (by positivity : (0 : ℝ) < 2 ^ fmt.freePlace u)]
    exact div_le_div_of_nonneg_left (abs_nonneg x) (by positivity) (zpow_le_zpow_right₀ one_le_two hle)

/-- What lies below the unit is rounded. -/
theorem lt_freePlace (hmore : u.more = true) : u.e < fmt.freePlace u := by
  have hlog : fmt.fracBits + 1 ≤ Nat.log2 u.m := (Nat.le_log2 h.ne_zero).mpr (h.enough hmore)
  rw [Fmt.freePlace, Unrounded.top]
  omega

theorem isUnits {q : Int} (hq : fmt.freePlace u ≤ q) : mode.IsUnits neg (|x| / 2 ^ q) (roundTo mode neg u q) :=
  isUnits_roundTo h.represents fun hmore => (h.lt_freePlace hmore).trans_le hq

theorem isInteger {q : Int} (hq : fmt.freePlace u ≤ q) :
    mode.IsInteger (x / 2 ^ q) (signed neg ((roundTo mode neg u q).n : Int)) := by
  have hx : x / 2 ^ q = signed neg (|x| / 2 ^ q) := by
    rw [div_eq_mul_inv, div_eq_mul_inv, signed_mul, ← h.eq_signed]
  rw [hx]
  exact isInteger_of_isUnits (h.isUnits hq) (by positivity)

/-! ### The rounded number -/

theorem units_le {q : Int} {low : Option Int} (hq : fmt.freePlace u ≤ q) (hplace : fmt.UnitPlace low x q) :
    (roundTo mode neg u q).n ≤ 2 ^ (fmt.fracBits + 1) := by
  have hle := hplace.rounded_le (h.isInteger (mode := mode) hq)
  rw [abs_signed neg (Int.natCast_nonneg _)] at hle
  exact_mod_cast hle

theorem units_full {q : Int} (hq : fmt.freePlace u ≤ q) (hfull : 2 ^ fmt.fracBits ≤ |x / 2 ^ q|) :
    2 ^ fmt.fracBits ≤ (roundTo mode neg u q).n := by
  have hge := rounded_full (h.isInteger (mode := mode) hq) hfull
  rw [abs_signed neg (Int.natCast_nonneg _)] at hge
  exact_mod_cast hge

/-- The magnitude bits are those of the rounded number. -/
theorem magnitudeValue_rounded : (fmt.magnitudeValue (fmt.roundedMagnitude mode neg u) : ℝ) =
    (roundTo mode neg u (fmt.unitPlace u)).n * 2 ^ fmt.unitPlace u := by
  have hfree := fmt.freePlace_le u
  have hmin : fmt.quantumMin ≤ fmt.unitPlace u := le_max_right _ _
  have hk : (fmt.unitPlace u - fmt.quantumMin).toNat = 0 ∨
      2 ^ fmt.fracBits ≤ (roundTo mode neg u (fmt.unitPlace u)).n := by
    rcases h.unitPlace_bounded.2.2 with hfull | hlow
    · exact .inr (h.units_full hfree hfull)
    · rw [← Option.some.inj hlow]
      exact .inl (by omega)
  rw [Fmt.roundedMagnitude, Fmt.magnitudeValue_units hk (h.units_le hfree h.unitPlace_bounded),
    Int.toNat_of_nonneg (by omega), add_sub_cancel]
  push_cast
  rfl

/-- The rounded number is within the range if its magnitude bits are below those of infinity. -/
theorem roundedMagnitude_lt_iff : fmt.roundedMagnitude mode neg u < fmt.infMagnitude ↔
    ((roundTo mode neg u (fmt.unitPlace u)).n : ℝ) * 2 ^ fmt.unitPlace u < 2 ^ (fmt.bias + 1) := by
  rw [← h.magnitudeValue_rounded, ← Fmt.magnitudeValue_infMagnitude, Rat.cast_lt,
    fmt.magnitudeValue_strictMono.lt_iff_lt]

theorem inexact_iff : (roundTo mode neg u (fmt.unitPlace u)).inexact = true ↔
    ((signed neg ((roundTo mode neg u (fmt.unitPlace u)).n : Int) : Int) : ℝ) * 2 ^ fmt.unitPlace u ≠ x := by
  have hw : (0 : ℝ) < 2 ^ fmt.unitPlace u := by positivity
  rw [(h.isUnits (fmt.freePlace_le u)).inexact_iff, Ne, Ne, not_iff_not, eq_div_iff hw.ne']
  conv_rhs => rw [h.eq_signed, signed_intCast, ← signed_mul, Int.cast_natCast]
  cases neg
  · rfl
  · exact neg_inj.symm

/-- Rounded with no bound of the exponent the number is below the least normal one exactly if it is tiny. -/
theorem isTiny_iff : fmt.isTiny mode neg u = true ↔
    ∃ w, IsRounding fmt none mode x w ∧ |w| < 2 ^ fmt.emin := by
  have hn := h.isInteger (mode := mode) le_rfl
  have hround := isRounding_of_isInteger h.unitPlace_free hn
  have hexists : (∃ w, IsRounding fmt none mode x w ∧ |w| < 2 ^ fmt.emin) ↔
      ((roundTo mode neg u (fmt.freePlace u)).n : ℝ) * 2 ^ fmt.freePlace u < 2 ^ fmt.emin := by
    rw [← abs_rounded neg]
    constructor
    · rintro ⟨w, hw, hlt⟩
      rwa [← isRounding_unique h.unitPlace_free hn h.value_ne_zero hw]
    · exact fun hlt => ⟨_, hround, hlt⟩
  rw [hexists]
  exact isTiny_iff_lt (h.units_full le_rfl (h.unitPlace_free.2.2.resolve_right nofun))
    (h.units_le le_rfl h.unitPlace_free)

/-- On overflow the mode and the sign say what is delivered. -/
theorem overflow_delivers :
    fmt.sign (fmt.overflowBits mode neg) = neg ∧
    (mode.overflowsToInfinity x → ∃ n, fmt.datum (fmt.overflowBits mode neg) = .inf n) ∧
    (¬ mode.overflowsToInfinity x → (fmt.datum (fmt.overflowBits mode neg)).isFinite = true ∧
      |((fmt.datum (fmt.overflowBits mode neg)).value : ℝ)| =
        (2 ^ (fmt.fracBits + 1) - 1) * 2 ^ ((fmt.bias : Int) - fmt.fracBits)) := by
  rcases overflowBits_cases (fmt := fmt) (mode := mode) h.sign h.value_ne_zero with ⟨hto, hbits⟩ | ⟨hto, hbits⟩
  · rw [hbits]
    exact ⟨Fmt.sign_ofMagnitude fmt.infMagnitude_lt, fun _ => ⟨neg, Fmt.datum_infinity neg⟩, fun hno => absurd hto hno⟩
  · have hmax : fmt.infMagnitude - 1 < fmt.infMagnitude := Nat.sub_lt fmt.infMagnitude_pos one_pos
    obtain ⟨hfin, hs, hv⟩ := Fmt.finite_ofMagnitude (neg := neg) hmax
    have hnonneg : (0 : ℝ) ≤ fmt.magnitudeValue (fmt.infMagnitude - 1) := by
      exact_mod_cast fmt.magnitudeValue_nonneg _
    rw [hbits, Fmt.maxFinite, hs, hv, ratCast_signed, abs_signed neg hnonneg, Fmt.magnitudeValue_maxFinite]
    exact ⟨rfl, fun hyes => absurd hyes hto, fun _ => ⟨hfin, rfl⟩⟩

/-- The rounding of a presented number delivers it. -/
theorem delivers : Delivers mode x (fmt.round mode neg u) := by
  have hround := isRounding_of_isInteger h.unitPlace_bounded (h.isInteger (mode := mode) (fmt.freePlace_le u))
  have habs := abs_rounded neg (roundTo mode neg u (fmt.unitPlace u)).n (fmt.unitPlace u)
  rcases lt_or_ge (fmt.roundedMagnitude mode neg u) fmt.infMagnitude with hmag | hmag
  · rw [Fmt.round_of_lt hmag]
    obtain ⟨hfin, hs, hv⟩ := Fmt.finite_ofMagnitude (neg := neg) hmag
    have hlt := h.roundedMagnitude_lt_iff.mp hmag
    refine ⟨(Bool.eq_iff_iff.mp hs).trans h.sign, _, hround, fun _ => ⟨hfin, ?_, ?_⟩,
      fun hge => absurd hge (habs ▸ hlt.not_ge)⟩
    · rw [hv, ratCast_signed, h.magnitudeValue_rounded, signed_mul, signed_intCast, Int.cast_natCast]
    · rw [← h.isTiny_iff, ← h.inexact_iff, and_comm]
      exact FlagSet.rounding_are _ _
  · rw [Fmt.round_of_overflow hmag]
    obtain ⟨hs, hoverflow⟩ := h.overflow_delivers (mode := mode)
    have hge := mt h.roundedMagnitude_lt_iff.mpr hmag.not_gt
    exact ⟨(Bool.eq_iff_iff.mp hs).trans h.sign, _, hround, fun hlt => absurd (habs ▸ hlt) hge,
      fun _ => ⟨FlagSet.overflow_are, hoverflow⟩⟩

end Fmt.Presents

end

end Sys2Proof.Machine
end

section
/-! PROOFS. The rounding of exact numbers, and the numbers that a format has (spec/45_rv32f_rv64f.md R290, R296). -/

namespace Sys2Proof.Machine

section

variable {fmt : Fmt} {mode : RoundMode} {neg : Bool} {m : Nat} {e : Int} {x v : ℝ}

theorem Datum.value_neg_iff (hm : m ≠ 0) : ((Datum.num neg m e).value : ℝ) < 0 ↔ neg = true := by
  have hpos : (0 : ℝ) < m * 2 ^ e := mul_pos (by exact_mod_cast Nat.pos_of_ne_zero hm) (by positivity)
  rw [Datum.value_num_real]
  cases neg
  · simp [signed, hpos.le]
  · simp [signed, hpos]

theorem abs_value_num (neg : Bool) (m : Nat) (e : Int) : |((Datum.num neg m e).value : ℝ)| = m * 2 ^ e := by
  rw [Datum.value_num_real, abs_signed neg (by positivity)]

/-- An integer is its magnitude with its sign. -/
theorem signed_natAbs (n : Int) : signed (decide (n < 0)) (n.natAbs : ℝ) = n := by
  rw [Nat.cast_natAbs, Int.cast_abs]
  rcases lt_or_ge n 0 with h | h
  · have hr : (n : ℝ) < 0 := by exact_mod_cast h
    rw [decide_eq_true h, abs_of_neg hr]
    exact neg_neg _
  · have hr : (0 : ℝ) ≤ n := by exact_mod_cast h
    rw [decide_eq_false h.not_gt, abs_of_nonneg hr]
    rfl

theorem value_natAbs (n e : Int) : ((Datum.num (n < 0) n.natAbs e).value : ℝ) = n * 2 ^ e := by
  rw [Datum.value_num_real, signed_mul, signed_natAbs]

theorem presents_exact (hm : m ≠ 0) : fmt.Presents neg ⟨m, e, false⟩ ((Datum.num neg m e).value : ℝ) where
  sign := (Datum.value_neg_iff hm).symm
  represents := abs_value_num neg m e ▸ Unrounded.represents_exact m e
  ne_zero := hm
  enough := nofun

theorem delivers_roundExact (hm : m ≠ 0) :
    Delivers mode ((Datum.num neg m e).value : ℝ) (fmt.roundExact mode neg m e) := by
  rw [Fmt.roundExact, if_neg hm]
  exact (presents_exact hm).delivers

/-- A number of the precision is rounded to itself. -/
theorem isRounding_self {low : Option Int} (h : IsRounding fmt low mode x v) (hx : x ≠ 0) (hgrid : fmt.onGrid low x) :
    v = x := by
  cases mode with
  | rne =>
    have hle := (h.2 x hgrid).1
    rw [sub_self, abs_zero] at hle
    exact sub_eq_zero.mp (abs_nonpos_iff.mp hle)
  | rmm =>
    have hle := (h.2 x hgrid).1
    rw [sub_self, abs_zero] at hle
    exact sub_eq_zero.mp (abs_nonpos_iff.mp hle)
  | rtz =>
    obtain ⟨-, hsign, hle, hmax⟩ := h
    exact eq_of_abs_eq_of_sign hx (mul_self_nonneg x) hsign (le_antisymm hle (hmax x hgrid le_rfl))
  | rdn => exact le_antisymm h.2.1 (h.2.2 x hgrid le_rfl)
  | rup => exact le_antisymm (h.2.2 x hgrid le_rfl) h.2.1

/-- A finite datum is a number of the precision within the range. -/
theorem Fmt.onGrid_of_finite {b : fmt.Bits} (h : (fmt.datum b).isFinite = true) :
    fmt.onGrid (some fmt.quantumMin) (fmt.datum b).value ∧ |((fmt.datum b).value : ℝ)| < 2 ^ (fmt.bias + 1) := by
  have hmag := Fmt.isFinite_iff.mp h
  obtain ⟨m, e, hd, hm, he, hv⟩ := Fmt.datum_of_lt hmag
  rw [hd]
  refine ⟨⟨signed (fmt.sign b) m, e, ?_, fun l hl => Option.some.inj hl ▸ he, ?_⟩, ?_⟩
  · rw [abs_signed _ (Int.natCast_nonneg m)]
    exact_mod_cast hm
  · rw [Datum.value_num_real, signed_mul, signed_intCast, Int.cast_natCast]
  · have hvr := congrArg (Rat.cast (K := ℝ)) hv
    push_cast at hvr
    rw [abs_value_num, hvr, ← Fmt.magnitudeValue_infMagnitude, Rat.cast_lt]
    exact fmt.magnitudeValue_strictMono hmag

theorem FlagSet.eq_none_of_are {fl : FlagSet} {uf nx : Prop} (h : fl.are False False False uf nx) (huf : ¬ uf)
    (hnx : ¬ nx) : fl = .none := by
  obtain ⟨h4, h3, h2, h1, h0⟩ := h
  apply BitVec.eq_of_getLsbD_eq
  intro k hk
  have hcases : k = 0 ∨ k = 1 ∨ k = 2 ∨ k = 3 ∨ k = 4 := by omega
  rcases hcases with rfl | rfl | rfl | rfl | rfl
  · exact Bool.eq_false_iff.mpr (mt h0.mp hnx)
  · exact Bool.eq_false_iff.mpr (mt h1.mp huf)
  · exact Bool.eq_false_iff.mpr h2.mp
  · exact Bool.eq_false_iff.mpr h3.mp
  · exact Bool.eq_false_iff.mpr h4.mp

/-- What delivers a number of the format delivers its pattern and no flag. -/
theorem eq_of_delivers {r : FloatResult fmt} {c : fmt.Bits} (h : Delivers mode x r)
    (hc : (fmt.datum c).isFinite = true) (hv : ((fmt.datum c).value : ℝ) = x) (hx : x ≠ 0) : r = ⟨c, .none⟩ := by
  obtain ⟨hgrid, hrange⟩ := Fmt.onGrid_of_finite hc
  rw [hv] at hgrid hrange
  obtain ⟨hsign, v, hround, hin, -⟩ := h
  obtain rfl : v = x := isRounding_self hround hx hgrid
  obtain ⟨hfin, hvalue, hflags⟩ := hin hrange
  have hne : (fmt.datum c).value ≠ 0 := fun h0 => hx (by rw [← hv, h0, Rat.cast_zero])
  have hbits : r.bits = c := by
    refine Fmt.eq_of_sign_of_value hfin hc (Bool.eq_iff_iff.mpr ?_) ?_
    · rw [hsign, Fmt.sign_iff_value_neg hc hne, ← hv, Rat.cast_lt_zero]
    · exact_mod_cast hvalue.trans hv.symm
  obtain ⟨bits, flags⟩ := r
  obtain rfl : bits = c := hbits
  obtain rfl : flags = .none := FlagSet.eq_none_of_are hflags (fun hu => hu.1 rfl) (fun hn => hn rfl)
  rfl

/-- A number of the precision within the range has a pattern. -/
theorem Fmt.exists_finite_of_onGrid (hgrid : fmt.onGrid (some fmt.quantumMin) v) (hrange : |v| < 2 ^ (fmt.bias + 1)) :
    ∃ b : fmt.Bits, (fmt.datum b).isFinite = true ∧ ((fmt.datum b).value : ℝ) = v := by
  obtain rfl | hv := eq_or_ne v 0
  · have hfin := Fmt.isFinite_of_isZero (Fmt.isZero_zero (fmt := fmt) false)
    exact ⟨fmt.zero false, hfin, by rw [(Fmt.isZero_iff_value hfin).mp (Fmt.isZero_zero false), Rat.cast_zero]⟩
  · obtain ⟨n, e, -, -, hne⟩ := id hgrid
    have hn : n.natAbs ≠ 0 := fun h0 => hv (by rw [hne, Int.natAbs_eq_zero.mp h0, Int.cast_zero, zero_mul])
    have hvalue : ((Datum.num (n < 0) n.natAbs e).value : ℝ) = v := by
      rw [value_natAbs, hne]
    have hdeliver := delivers_roundExact (fmt := fmt) (mode := .rne) (neg := n < 0) (e := e) hn
    obtain ⟨-, w, hround, hin, -⟩ := hvalue ▸ hdeliver
    obtain rfl := isRounding_self hround hv hgrid
    exact ⟨_, (hin hrange).1, (hin hrange).2.1⟩

end

/-- Settles O57: the patterns are the numbers that round to themselves, and an exact number presents itself to the
rounding. -/
theorem roundedResultsAreNearest : Obligations.RoundedResultsAreNearest := by
  intro fmt mode
  refine ⟨fun v => ⟨fun ⟨hgrid, hrange⟩ => Fmt.exists_finite_of_onGrid hgrid hrange, ?_⟩,
    fun neg m e hm => delivers_roundExact hm⟩
  rintro ⟨b, hfin, rfl⟩
  exact Fmt.onGrid_of_finite hfin

/-- Settles O54: a number of the format delivers its pattern; a zero keeps its sign. -/
theorem representableNumbersAreExact : Obligations.RepresentableNumbersAreExact := by
  intro fmt mode b neg m e hd
  have hfin : (fmt.datum b).isFinite = true := congrArg Datum.isFinite hd
  by_cases hm : m = 0
  · have hz := (Fmt.isZero_iff_of_num hd).mpr hm
    rw [Fmt.roundExact, if_pos hm, ← Fmt.eq_of_isZero hz (Fmt.isZero_zero neg)
      ((Fmt.sign_of_datum_num hd).trans (Fmt.sign_zero neg).symm)]
  · have hne : ((Datum.num neg m e).value : ℝ) ≠ 0 := by
      rw [← abs_ne_zero, abs_value_num]
      exact mul_ne_zero (by exact_mod_cast hm) (by positivity)
    exact eq_of_delivers (delivers_roundExact hm) hfin (by rw [hd]) hne

end Sys2Proof.Machine
end

section
/-! PROOFS. The integer square root, and the quotients and roots to enough places (spec/45_rv32f_rv64f.md R296, R300). -/

namespace Sys2Proof.Machine

theorem sqrtBits_spec {m : Nat} : ∀ {i r : Nat}, r * r ≤ m → m < (r + 2 ^ i) * (r + 2 ^ i) →
    sqrtBits m i r * sqrtBits m i r ≤ m ∧ m < (sqrtBits m i r + 1) * (sqrtBits m i r + 1)
  | 0, _, hle, hlt => ⟨hle, hlt⟩
  | i + 1, r, hle, hlt => by
    rw [sqrtBits]
    split
    case isTrue h =>
      refine sqrtBits_spec h ?_
      rwa [Nat.add_assoc, ← Nat.two_mul, ← pow_succ']
    case isFalse h => exact sqrtBits_spec hle (not_le.mp h)

theorem natSqrt_spec (m : Nat) : natSqrt m * natSqrt m ≤ m ∧ m < (natSqrt m + 1) * (natSqrt m + 1) := by
  refine sqrtBits_spec (Nat.zero_le _) ?_
  rw [Nat.zero_add, ← pow_add]
  exact Nat.lt_log2_self.trans_le (Nat.pow_le_pow_right two_pos (by omega))

section

variable {fmt : Fmt}

/-- A quotient of whole numbers is its integer part, and more if there is a remainder. -/
theorem represents_quotient (n : Nat) {d : Nat} (hd : 0 < d) (e : Int) :
    Unrounded.Represents ⟨n / d, e, n % d ≠ 0⟩ ((n : ℝ) / d * 2 ^ e) := by
  have hd' : (0 : ℝ) < d := by exact_mod_cast hd
  have hn : (n : ℝ) / d = (n / d : Nat) + (n % d : Nat) / d := by
    rw [eq_comm, ← mul_left_inj' hd'.ne', add_mul, div_mul_cancel₀ _ hd'.ne', div_mul_cancel₀ _ hd'.ne']
    exact_mod_cast Nat.div_add_mod' n d
  have hw : (0 : ℝ) < 2 ^ e := by positivity
  rw [Unrounded.Represents]
  by_cases hr : n % d = 0
  · rw [hr, if_neg (by simp), hn, hr, Nat.cast_zero, zero_div, add_zero]
  · have hpos : (0 : ℝ) < (n % d : Nat) / d := div_pos (by exact_mod_cast Nat.pos_of_ne_zero hr) hd'
    have hlt : ((n % d : Nat) : ℝ) / d < 1 := (div_lt_one hd').mpr (by exact_mod_cast Nat.mod_lt n hd)
    rw [if_pos (by simp [hr]), hn]
    exact ⟨mul_lt_mul_of_pos_right (by linarith) hw, mul_lt_mul_of_pos_right (by linarith) hw⟩

/-- A root of a whole number is its integer part, and more if that is not the root. -/
theorem represents_root (n : Nat) (e : Int) :
    Unrounded.Represents ⟨natSqrt n, e, natSqrt n * natSqrt n ≠ n⟩ (Real.sqrt n * 2 ^ e) := by
  obtain ⟨hle, hlt⟩ := natSqrt_spec n
  have hw : (0 : ℝ) < 2 ^ e := by positivity
  have hr : (0 : ℝ) ≤ natSqrt n := Nat.cast_nonneg _
  rw [Unrounded.Represents]
  by_cases hsq : natSqrt n * natSqrt n = n
  · have hroot : Real.sqrt n = natSqrt n := by
      rw [Real.sqrt_eq_iff_mul_self_eq (Nat.cast_nonneg _) hr]
      exact_mod_cast hsq.symm
    rw [if_neg (by simp [hsq]), hroot]
  · have hlow : (natSqrt n : ℝ) < Real.sqrt n := by
      rw [Real.lt_sqrt hr, sq]
      exact_mod_cast lt_of_le_of_ne hle hsq
    have hhigh : Real.sqrt n < natSqrt n + 1 := by
      rw [Real.sqrt_lt' (by positivity), sq]
      exact_mod_cast hlt
    rw [if_pos (by simp [hsq])]
    exact ⟨mul_lt_mul_of_pos_right hlow hw, mul_lt_mul_of_pos_right hhigh hw⟩

theorem quotient_represents (fmt : Fmt) (ma : Nat) (ea : Int) {mb : Nat} (hb : 0 < mb) (eb : Int) :
    (fmt.quotient ma ea mb eb).Represents ((ma : ℝ) * 2 ^ ea / (mb * 2 ^ eb)) := by
  have hvalue : (ma : ℝ) * 2 ^ ea / (mb * 2 ^ eb) =
      ((ma * 2 ^ (2 * fmt.fracBits + 4) : Nat) : ℝ) / mb * 2 ^ (ea - eb - (2 * fmt.fracBits + 4 : Nat)) := by
    rw [zpow_sub₀ two_ne_zero, zpow_sub₀ two_ne_zero, zpow_natCast, Nat.cast_mul, Nat.cast_pow, Nat.cast_ofNat]
    field_simp
  rw [hvalue]
  exact represents_quotient _ hb _

/-- The quotient of significands of the precision has more places than the precision. -/
theorem quotient_enough {ma mb : Nat} (ha : ma ≠ 0) (hb : 0 < mb) (hlt : mb < 2 ^ (fmt.fracBits + 1)) (ea eb : Int) :
    2 ^ (fmt.fracBits + 1) ≤ (fmt.quotient ma ea mb eb).m := by
  refine (Nat.le_div_iff_mul_le hb).mpr ?_
  calc 2 ^ (fmt.fracBits + 1) * mb ≤ 2 ^ (fmt.fracBits + 1) * 2 ^ (fmt.fracBits + 1) := Nat.mul_le_mul_left _ hlt.le
    _ = 2 ^ (2 * fmt.fracBits + 2) := by rw [← pow_add]; congr 1; omega
    _ ≤ 2 ^ (2 * fmt.fracBits + 4) := Nat.pow_le_pow_right two_pos (by omega)
    _ ≤ ma * 2 ^ (2 * fmt.fracBits + 4) := Nat.le_mul_of_pos_left _ (Nat.pos_of_ne_zero ha)

theorem root_represents (fmt : Fmt) (m : Nat) (e : Int) :
    (fmt.root m e).Represents (Real.sqrt ((m : ℝ) * 2 ^ e)) := by
  obtain ⟨shift, hshift, heven⟩ : ∃ shift : Nat,
      shift = 2 * fmt.fracBits + 4 + (if e % 2 = 0 then 0 else 1) ∧ (e - (shift : Int)) % 2 = 0 := by
    refine ⟨_, rfl, ?_⟩
    split <;> (push_cast; omega)
  have hvalue : Real.sqrt ((m : ℝ) * 2 ^ e) =
      Real.sqrt ((m * 2 ^ shift : Nat) : ℝ) * 2 ^ ((e - (shift : Int)) / 2) := by
    have hsplit : (m : ℝ) * 2 ^ e = ((m * 2 ^ shift : Nat) : ℝ) * (2 ^ ((e - (shift : Int)) / 2)) ^ 2 := by
      rw [← zpow_natCast, ← zpow_mul, Nat.cast_ofNat, Int.ediv_mul_cancel (Int.dvd_of_emod_eq_zero heven),
        zpow_sub₀ two_ne_zero, zpow_natCast, Nat.cast_mul, Nat.cast_pow, Nat.cast_ofNat]
      field_simp
    rw [hsplit, Real.sqrt_mul (Nat.cast_nonneg _), Real.sqrt_sq (by positivity)]
  rw [hvalue, Fmt.root, ← hshift]
  exact represents_root _ _

/-- The root has more places than the precision. -/
theorem root_enough {m : Nat} (hm : m ≠ 0) (e : Int) : 2 ^ (fmt.fracBits + 1) ≤ (fmt.root m e).m := by
  have hscaled : 2 ^ (2 * fmt.fracBits + 4) ≤ m * 2 ^ (2 * fmt.fracBits + 4 + (if e % 2 = 0 then 0 else 1)) :=
    (Nat.pow_le_pow_right two_pos (Nat.le_add_right _ _)).trans (Nat.le_mul_of_pos_left _ (Nat.pos_of_ne_zero hm))
  have hlt := (natSqrt_spec (m * 2 ^ (2 * fmt.fracBits + 4 + (if e % 2 = 0 then 0 else 1)))).2
  by_contra hsmall
  have hroot : (fmt.root m e).m + 1 ≤ 2 ^ (fmt.fracBits + 1) := not_le.mp hsmall
  have hsq : ((fmt.root m e).m + 1) * ((fmt.root m e).m + 1) ≤ 2 ^ (2 * fmt.fracBits + 4) :=
    calc _ ≤ 2 ^ (fmt.fracBits + 1) * 2 ^ (fmt.fracBits + 1) := Nat.mul_le_mul hroot hroot
      _ = 2 ^ (2 * fmt.fracBits + 2) := by rw [← pow_add]; congr 1; omega
      _ ≤ 2 ^ (2 * fmt.fracBits + 4) := Nat.pow_le_pow_right two_pos (by omega)
  exact absurd (hscaled.trans_lt hlt) hsq.not_gt

end

end Sys2Proof.Machine
end

section
/-! PROOFS. Every operation delivers its exact result rounded once (spec/45_rv32f_rv64f.md R296, R297, R300, R304). -/

namespace Sys2Proof.Machine

section

variable {fmt : Fmt} {mode : RoundMode}

/-! ### Data -/

theorem Datum.value_negate (a : Datum) : a.negate.value = -a.value := by
  cases a with
  | num neg m e => rw [Datum.negate, Datum.value_num, Datum.value_num, signFactor_not, neg_mul]
  | inf neg => exact neg_zero.symm
  | nan signaling => exact neg_zero.symm

theorem Datum.isFinite_negate (a : Datum) : a.negate.isFinite = a.isFinite := by cases a <;> rfl

theorem Datum.value_mul (na nb : Bool) (ma mb : Nat) (ea eb : Int) :
    (Datum.num (na != nb) (ma * mb) (ea + eb)).value = (Datum.num na ma ea).value * (Datum.num nb mb eb).value := by
  rw [Datum.value_num, Datum.value_num, Datum.value_num, signFactor_bne, zpow_add₀ two_ne_zero]
  push_cast
  ring

theorem Datum.significand_ne_zero {neg : Bool} {m : Nat} {e : Int} (h : (Datum.num neg m e).value ≠ 0) : m ≠ 0 := by
  rintro rfl
  rw [Datum.value_num, Nat.cast_zero, zero_mul, mul_zero] at h
  exact h rfl

theorem Datum.exists_num {a : Datum} (h : a.isFinite = true) : ∃ neg m e, a = .num neg m e := by
  cases a with
  | num neg m e => exact ⟨neg, m, e, rfl⟩
  | inf => cases h
  | nan => cases h

theorem delivers_roundExact_of_value {neg : Bool} {m : Nat} {e : Int} {v : ℚ} (hv : (Datum.num neg m e).value = v)
    (h0 : v ≠ 0) : Delivers mode (v : ℝ) (fmt.roundExact mode neg m e) := by
  subst hv
  exact delivers_roundExact (Datum.significand_ne_zero h0)

/-! ### Sums -/

theorem sumNumbers_delivers {na nb : Bool} {ma mb : Nat} {ea eb : Int}
    (h : (Datum.num na ma ea).value + (Datum.num nb mb eb).value ≠ 0) :
    Delivers mode (((Datum.num na ma ea).value + (Datum.num nb mb eb).value : ℚ) : ℝ)
      (fmt.sumNumbers mode na ma ea nb mb eb) := by
  have hsum : (Datum.num na ma ea).value + (Datum.num nb mb eb).value =
      ((scaled na ma ea (min ea eb) + scaled nb mb eb (min ea eb) : Int) : ℚ) * 2 ^ min ea eb := by
    rw [Datum.value_eq_scaled na ma (min_le_left ea eb), Datum.value_eq_scaled nb mb (min_le_right ea eb)]
    push_cast
    ring
  have hne : scaled na ma ea (min ea eb) + scaled nb mb eb (min ea eb) ≠ 0 := fun h0 =>
    h (by rw [hsum, h0, Int.cast_zero, zero_mul])
  rw [Fmt.sumNumbers, if_neg hne]
  refine delivers_roundExact_of_value ?_ h
  rw [hsum, ← Rat.cast_inj (α := ℝ), value_natAbs]
  push_cast
  rfl

theorem sumData_delivers {a b : Datum} (ha : a.isFinite = true) (hb : b.isFinite = true) (h : a.value + b.value ≠ 0) :
    Delivers mode ((a.value + b.value : ℚ) : ℝ) (fmt.sumData mode a b) := by
  obtain ⟨na, ma, ea, rfl⟩ := Datum.exists_num ha
  obtain ⟨nb, mb, eb, rfl⟩ := Datum.exists_num hb
  exact sumNumbers_delivers h

/-- The sum of a product and an addend (R297). -/
theorem fmaData_delivers {a b c : Datum} {v : ℚ} (ha : a.isFinite = true) (hb : b.isFinite = true)
    (hc : c.isFinite = true) (hv : a.value * b.value + c.value = v) (h : v ≠ 0) :
    Delivers mode (v : ℝ) (fmt.fmaData mode a b c) := by
  obtain ⟨na, ma, ea, rfl⟩ := Datum.exists_num ha
  obtain ⟨nb, mb, eb, rfl⟩ := Datum.exists_num hb
  rw [← Datum.value_mul] at hv
  subst hv
  exact sumData_delivers rfl hc h

/-! ### The other operations -/

theorem mul_delivers {a b : fmt.Bits} (ha : (fmt.datum a).isFinite = true) (hb : (fmt.datum b).isFinite = true)
    (h : (fmt.datum a).value * (fmt.datum b).value ≠ 0) :
    Delivers mode (((fmt.datum a).value * (fmt.datum b).value : ℚ) : ℝ) (fmt.mul mode a b) := by
  obtain ⟨na, ma, ea, hda⟩ := Datum.exists_num ha
  obtain ⟨nb, mb, eb, hdb⟩ := Datum.exists_num hb
  rw [hda, hdb] at h
  rw [Fmt.mul, hda, hdb]
  exact delivers_roundExact_of_value (Datum.value_mul na nb ma mb ea eb) h

theorem div_delivers {a b : fmt.Bits} (ha : (fmt.datum a).isFinite = true) (hb : (fmt.datum b).isFinite = true)
    (hx : (fmt.datum a).value ≠ 0) (hy : (fmt.datum b).value ≠ 0) :
    Delivers mode (((fmt.datum a).value / (fmt.datum b).value : ℚ) : ℝ) (fmt.div mode a b) := by
  obtain ⟨ma, ea, hda, -⟩ := Fmt.datum_of_lt (Fmt.isFinite_iff.mp ha)
  obtain ⟨mb, eb, hdb, hmb, -⟩ := Fmt.datum_of_lt (Fmt.isFinite_iff.mp hb)
  rw [hda] at hx
  rw [hdb] at hy
  have ha0 := Datum.significand_ne_zero hx
  have hb0 := Datum.significand_ne_zero hy
  rw [Fmt.div, hda, hdb]
  simp only [if_neg ha0, if_neg hb0]
  have henough := quotient_enough (fmt := fmt) ha0 (Nat.pos_of_ne_zero hb0) hmb ea eb
  refine Fmt.Presents.delivers ⟨?_, ?_, ((Nat.two_pow_pos _).trans_le henough).ne', fun _ => henough⟩
  · rw [← Datum.value_neg_iff (e := ea + eb) (mul_ne_zero ha0 hb0), Datum.value_mul, Rat.cast_mul, Rat.cast_div,
      mul_neg_iff, div_neg_iff]
  · rw [Rat.cast_div, abs_div, abs_value_num, abs_value_num]
    exact quotient_represents fmt ma ea (Nat.pos_of_ne_zero hb0) eb

theorem sqrt_delivers {a : fmt.Bits} (ha : (fmt.datum a).isFinite = true) (hx : 0 < (fmt.datum a).value) :
    Delivers mode (Real.sqrt (fmt.datum a).value) (fmt.sqrt mode a) := by
  have hsign : fmt.sign a = false := Bool.eq_false_iff.mpr fun hs =>
    absurd ((Fmt.sign_iff_value_neg ha hx.ne').mp hs) hx.not_gt
  obtain ⟨m, e, hd, -⟩ := Fmt.datum_of_lt (Fmt.isFinite_iff.mp ha)
  rw [hsign] at hd
  have hm := Datum.significand_ne_zero (hd ▸ hx.ne')
  have henough := root_enough (fmt := fmt) hm e
  rw [Fmt.sqrt, hd]
  simp only [if_neg hm, Bool.false_eq_true, if_false]
  refine Fmt.Presents.delivers ⟨iff_of_false Bool.false_ne_true (Real.sqrt_nonneg _).not_gt, ?_,
    ((Nat.two_pow_pos _).trans_le henough).ne', fun _ => henough⟩
  rw [abs_of_nonneg (Real.sqrt_nonneg _), Datum.value_num_real]
  exact root_represents fmt m e

theorem convert_delivers {dst : Fmt} {a : fmt.Bits} (ha : (fmt.datum a).isFinite = true)
    (hx : (fmt.datum a).value ≠ 0) : Delivers mode ((fmt.datum a).value : ℝ) (fmt.convert dst mode a) := by
  obtain ⟨neg, m, e, hd⟩ := Datum.exists_num ha
  rw [hd] at hx
  rw [Fmt.convert, hd]
  exact delivers_roundExact_of_value rfl hx

theorem ofInt_delivers {n : Int} (hn : n ≠ 0) : Delivers mode (n : ℝ) (fmt.ofInt mode n) := by
  have hvalue := value_natAbs n 0
  rw [zpow_zero, mul_one] at hvalue
  exact hvalue ▸ delivers_roundExact (Int.natAbs_ne_zero.mpr hn)

end

/-- Settles O60: each operation rounds the exact result it computes from the data. -/
theorem operationsRoundTheExactResult : Obligations.OperationsRoundTheExactResult := by
  rintro fmt dst mode a b c x y z ha hb hc rfl rfl rfl
  have hb' : (fmt.datum b).negate.isFinite = true := by rwa [Datum.isFinite_negate]
  have hc' : (fmt.datum c).negate.isFinite = true := by rwa [Datum.isFinite_negate]
  refine ⟨sumData_delivers ha hb, fun h => ?sub, mul_delivers ha hb, div_delivers ha hb, sqrt_delivers ha,
    fmaData_delivers ha hb hc rfl, fmaData_delivers ha hb hc' ?msub, fmaData_delivers ha hb' hc ?nmsub,
    fmaData_delivers ha hb' hc' ?nmadd, convert_delivers ha, fun n => ofInt_delivers⟩
  case sub =>
    rw [sub_eq_add_neg, ← Datum.value_negate] at h ⊢
    exact sumData_delivers ha hb' h
  case msub => rw [Datum.value_negate, sub_eq_add_neg]
  case nmsub => rw [Datum.value_negate, mul_neg]
  case nmadd => rw [Datum.value_negate, Datum.value_negate, mul_neg, sub_eq_add_neg]

end Sys2Proof.Machine
end

section
/-! PROOFS. Exact, zero and infinite results (spec/45_rv32f_rv64f.md R296, R297, R300, R304). -/

namespace Sys2Proof.Machine

section

variable {fmt : Fmt} {mode : RoundMode} {a b c d : fmt.Bits}

/-! ### Results that are numbers of the format -/

theorem eq_of_delivers_value {v : ℚ} {r : FloatResult fmt} (h : Delivers mode (v : ℝ) r)
    (hc : (fmt.datum c).isFinite = true) (hv : v = (fmt.datum c).value) (h0 : (fmt.datum c).value ≠ 0) :
    r = ⟨c, .none⟩ :=
  eq_of_delivers h hc (by rw [hv]) (by rw [hv]; exact_mod_cast h0)

theorem sqrt_eq_of_square (ha : (fmt.datum a).isFinite = true) (hc : (fmt.datum c).isFinite = true)
    (hpos : 0 < (fmt.datum c).value) (hv : (fmt.datum c).value * (fmt.datum c).value = (fmt.datum a).value) :
    fmt.sqrt mode a = ⟨c, .none⟩ := by
  have hroot : Real.sqrt (fmt.datum a).value = (fmt.datum c).value := by
    rw [← hv, Rat.cast_mul, Real.sqrt_mul_self (by exact_mod_cast hpos.le)]
  have hdeliver : Delivers mode (Real.sqrt (fmt.datum a).value) (fmt.sqrt mode a) :=
    sqrt_delivers ha (hv ▸ mul_pos hpos hpos)
  rw [hroot] at hdeliver
  exact eq_of_delivers_value hdeliver hc rfl hpos.ne'

/-! ### Zeros -/

theorem Datum.significand_eq_zero {neg : Bool} {m : Nat} {e : Int} (h : (Datum.num neg m e).value = 0) : m = 0 := by
  by_contra hm
  rw [Datum.value_num, mul_eq_zero, or_iff_right (signFactor_ne_zero _), mul_eq_zero, Nat.cast_eq_zero] at h
  exact h.elim hm (zpow_ne_zero _ two_ne_zero)

theorem roundExact_zero {neg : Bool} {e : Int} : fmt.roundExact mode neg 0 e = ⟨fmt.zero neg, .none⟩ := if_pos rfl

theorem sumData_zero {na nb : Bool} {ma mb : Nat} {ea eb : Int}
    (h : (Datum.num na ma ea).value + (Datum.num nb mb eb).value = 0) :
    (fmt.sumData mode (.num na ma ea) (.num nb mb eb)).isZero (if na = nb then na else decide (mode = .rdn)) := by
  have hsum : scaled na ma ea (min ea eb) + scaled nb mb eb (min ea eb) = 0 := by
    rw [Datum.value_eq_scaled na ma (min_le_left ea eb), Datum.value_eq_scaled nb mb (min_le_right ea eb), ← add_mul,
      mul_eq_zero, or_iff_left (zpow_ne_zero _ two_ne_zero)] at h
    exact_mod_cast h
  rw [Fmt.sumData, Fmt.sumNumbers, if_pos hsum]
  exact Fmt.isZero_result _

/-- A finite datum with the sign of its pattern. -/
theorem Fmt.datum_of_finite (h : (fmt.datum a).isFinite = true) : ∃ m e, fmt.datum a = .num (fmt.sign a) m e := by
  obtain ⟨m, e, hd, -⟩ := Fmt.datum_of_lt (Fmt.isFinite_iff.mp h)
  exact ⟨m, e, hd⟩

variable (ha : (fmt.datum a).isFinite = true) (hb : (fmt.datum b).isFinite = true)

include ha

theorem sqrt_zero (h : (fmt.datum a).value = 0) : (fmt.sqrt mode a).isZero (fmt.sign a) := by
  obtain ⟨m, e, hd⟩ := Fmt.datum_of_finite ha
  rw [hd] at h
  rw [Fmt.sqrt, hd]
  simp only [Datum.significand_eq_zero h, if_true]
  exact Fmt.isZero_result _

theorem convert_zero {dst : Fmt} (h : (fmt.datum a).value = 0) : (fmt.convert dst mode a).isZero (fmt.sign a) := by
  obtain ⟨m, e, hd⟩ := Fmt.datum_of_finite ha
  rw [hd] at h
  rw [Fmt.convert, hd]
  simp only [Datum.significand_eq_zero h, roundExact_zero]
  exact Fmt.isZero_result _

include hb

theorem add_zero_sum (h : (fmt.datum a).value + (fmt.datum b).value = 0) :
    (fmt.add mode a b).isZero (if fmt.sign a = fmt.sign b then fmt.sign a else decide (mode = .rdn)) := by
  obtain ⟨ma, ea, hda⟩ := Fmt.datum_of_finite ha
  obtain ⟨mb, eb, hdb⟩ := Fmt.datum_of_finite hb
  rw [hda, hdb] at h
  rw [Fmt.add, hda, hdb]
  exact sumData_zero h

theorem sub_zero_difference (h : (fmt.datum a).value - (fmt.datum b).value = 0) :
    (fmt.sub mode a b).isZero (if fmt.sign a = fmt.sign b then decide (mode = .rdn) else fmt.sign a) := by
  obtain ⟨ma, ea, hda⟩ := Fmt.datum_of_finite ha
  obtain ⟨mb, eb, hdb⟩ := Fmt.datum_of_finite hb
  rw [sub_eq_add_neg, ← Datum.value_negate, hda, hdb] at h
  have hsign : (if fmt.sign a = fmt.sign b then decide (mode = .rdn) else fmt.sign a) =
      if fmt.sign a = !fmt.sign b then fmt.sign a else decide (mode = .rdn) := by
    cases fmt.sign a <;> cases fmt.sign b <;> rfl
  rw [Fmt.sub, hda, hdb, hsign]
  exact sumData_zero h

theorem mul_zero_product (h : (fmt.datum a).value * (fmt.datum b).value = 0) :
    (fmt.mul mode a b).isZero (fmt.sign a ^^ fmt.sign b) := by
  obtain ⟨ma, ea, hda⟩ := Fmt.datum_of_finite ha
  obtain ⟨mb, eb, hdb⟩ := Fmt.datum_of_finite hb
  rw [hda, hdb, ← Datum.value_mul] at h
  rw [Fmt.mul, hda, hdb]
  simp only [Datum.significand_eq_zero h, roundExact_zero]
  exact Fmt.isZero_result _

theorem div_zero_dividend (h : (fmt.datum a).value = 0) (hb0 : (fmt.datum b).value ≠ 0) :
    (fmt.div mode a b).isZero (fmt.sign a ^^ fmt.sign b) := by
  obtain ⟨ma, ea, hda⟩ := Fmt.datum_of_finite ha
  obtain ⟨mb, eb, hdb⟩ := Fmt.datum_of_finite hb
  rw [hda] at h
  rw [hdb] at hb0
  rw [Fmt.div, hda, hdb]
  simp only [Datum.significand_eq_zero h, if_neg (Datum.significand_ne_zero hb0), if_true]
  exact Fmt.isZero_result _

theorem fmadd_zero_sum (hd : (fmt.datum d).isFinite = true)
    (h : (fmt.datum a).value * (fmt.datum b).value + (fmt.datum d).value = 0) :
    (fmt.fmadd mode a b d).isZero
      (if (fmt.sign a ^^ fmt.sign b) = fmt.sign d then fmt.sign d else decide (mode = .rdn)) := by
  obtain ⟨ma, ea, hda⟩ := Fmt.datum_of_finite ha
  obtain ⟨mb, eb, hdb⟩ := Fmt.datum_of_finite hb
  obtain ⟨md, ed, hdd⟩ := Fmt.datum_of_finite hd
  rw [hda, hdb, hdd, ← Datum.value_mul] at h
  have hsign : (if (fmt.sign a ^^ fmt.sign b) = fmt.sign d then fmt.sign d else decide (mode = .rdn)) =
      if (fmt.sign a != fmt.sign b) = fmt.sign d then fmt.sign a != fmt.sign b else decide (mode = .rdn) := by
    cases fmt.sign a <;> cases fmt.sign b <;> cases fmt.sign d <;> rfl
  rw [Fmt.fmadd, hda, hdb, hdd, hsign]
  exact sumData_zero h

/-! ### Infinities -/

theorem div_by_zero (ha0 : (fmt.datum a).value ≠ 0) (h : (fmt.datum b).value = 0) :
    (fmt.div mode a b).isInfinity (fmt.sign a ^^ fmt.sign b) True := by
  obtain ⟨ma, ea, hda⟩ := Fmt.datum_of_finite ha
  obtain ⟨mb, eb, hdb⟩ := Fmt.datum_of_finite hb
  rw [hda] at ha0
  rw [hdb] at h
  rw [Fmt.div, hda, hdb]
  simp only [Datum.significand_eq_zero h, if_neg (Datum.significand_ne_zero ha0), if_true]
  exact ⟨Fmt.datum_infinity _, by simp⟩

omit ha hb

theorem Fmt.infinity_isInfinity (neg : Bool) : FloatResult.isInfinity ⟨fmt.infinity neg, .none⟩ neg False :=
  ⟨Fmt.datum_infinity neg, by simp⟩

theorem FloatResult.isInfinity_of_eq {r : FloatResult fmt} {neg : Bool} (h : r = ⟨fmt.infinity neg, .none⟩) :
    r.isInfinity neg False := h ▸ Fmt.infinity_isInfinity neg

/-- An infinity and what is finite or the same infinity have it as their sum. -/
theorem sumData_infinity {x : Datum} {n : Bool} (hx : x.isFinite = true ∨ x = .inf n) :
    (fmt.sumData mode (.inf n) x).isInfinity n False ∧ (fmt.sumData mode x (.inf n)).isInfinity n False := by
  rcases hx with hfin | rfl
  · obtain ⟨neg, m, e, rfl⟩ := Datum.exists_num hfin
    exact ⟨Fmt.infinity_isInfinity n, Fmt.infinity_isInfinity n⟩
  · have hsum : fmt.sumData mode (.inf n) (.inf n) = ⟨fmt.infinity n, .none⟩ := if_pos rfl
    exact ⟨FloatResult.isInfinity_of_eq hsum, FloatResult.isInfinity_of_eq hsum⟩

variable {n : Bool} (hinf : fmt.datum a = .inf n)

include hinf

theorem mul_infinity (hnan : (fmt.datum b).isNaN = false) (hz : fmt.isZero b = false) :
    (fmt.mul mode a b).isInfinity (n ^^ fmt.sign b) False ∧
    (fmt.mul mode b a).isInfinity (n ^^ fmt.sign b) False := by
  rw [Fmt.mul, Fmt.mul, hinf]
  rcases Fmt.inf_or_num hnan hz with hd | ⟨m, e, hd, hm⟩
  · rw [hd]
    exact ⟨Fmt.infinity_isInfinity _, Bool.xor_comm n _ ▸ Fmt.infinity_isInfinity _⟩
  · rw [hd]
    simp only [if_neg hm]
    exact ⟨Fmt.infinity_isInfinity _, Bool.xor_comm n _ ▸ Fmt.infinity_isInfinity _⟩

theorem div_infinity (hb : (fmt.datum b).isFinite = true) :
    (fmt.div mode a b).isInfinity (n ^^ fmt.sign b) False ∧ (fmt.div mode b a).isZero (n ^^ fmt.sign b) := by
  obtain ⟨m, e, hd⟩ := Fmt.datum_of_finite hb
  rw [Fmt.div, Fmt.div, hinf, hd]
  exact ⟨Fmt.infinity_isInfinity _, Bool.xor_comm n _ ▸ Fmt.isZero_result _⟩

theorem fmadd_infinity_addend (hb : (fmt.datum b).isFinite = true) (hd : (fmt.datum d).isFinite = true) :
    (fmt.fmadd mode b d a).isInfinity n False := by
  obtain ⟨mb, eb, hdb⟩ := Fmt.datum_of_finite hb
  obtain ⟨md, ed, hdd⟩ := Fmt.datum_of_finite hd
  rw [Fmt.fmadd, hdb, hdd, hinf]
  exact Fmt.infinity_isInfinity n

end

/-- Settles O56: a number of the format is delivered since it rounds to itself; zeros and infinities go by the cases of the
operands. -/
theorem exactResultsAreDelivered : Obligations.ExactResultsAreDelivered := by
  intro fmt dst mode a b c d e
  refine ⟨fun ha hb hc hd he => ⟨fun h0 => ?numbers, fun h0 hv => ?converted⟩, fun ha hb hd => ?zeros, ?zeroInt,
    fun n ha => ?infinities⟩
  case numbers =>
    have hb' : (fmt.datum b).negate.isFinite = true := by rwa [Datum.isFinite_negate]
    have hd' : (fmt.datum d).negate.isFinite = true := by rwa [Datum.isFinite_negate]
    refine ⟨fun hv => ?_, fun hv => ?_, fun hv => ?_, fun hb0 hv => ?_, sqrt_eq_of_square ha hc, fun hv => ?_,
      fun hv => ?_, fun hv => ?_, fun hv => ?_, fun z hz => ?_⟩
    · exact eq_of_delivers_value (sumData_delivers ha hb (hv ▸ h0)) hc hv h0
    · rw [sub_eq_add_neg, ← Datum.value_negate] at hv
      exact eq_of_delivers_value (sumData_delivers ha hb' (hv ▸ h0)) hc hv h0
    · exact eq_of_delivers_value (mul_delivers ha hb (hv ▸ h0)) hc hv h0
    · have ha0 : (fmt.datum a).value ≠ 0 := fun hz => h0 (by rw [← hv, hz, zero_div])
      exact eq_of_delivers_value (div_delivers ha hb ha0 hb0) hc hv h0
    · exact eq_of_delivers_value (fmaData_delivers ha hb hd hv h0) hc rfl h0
    · rw [sub_eq_add_neg, ← Datum.value_negate] at hv
      exact eq_of_delivers_value (fmaData_delivers ha hb hd' hv h0) hc rfl h0
    · rw [← mul_neg, ← Datum.value_negate] at hv
      exact eq_of_delivers_value (fmaData_delivers ha hb' hd hv h0) hc rfl h0
    · rw [sub_eq_add_neg, ← mul_neg, ← Datum.value_negate, ← Datum.value_negate] at hv
      exact eq_of_delivers_value (fmaData_delivers ha hb' hd' hv h0) hc rfl h0
    · have hz0 : z ≠ 0 := fun hzero => h0 (by rw [← hz, hzero, Int.cast_zero])
      have hdeliver := ofInt_delivers (fmt := fmt) (mode := mode) hz0
      rw [← Rat.cast_intCast] at hdeliver
      exact eq_of_delivers_value hdeliver hc hz h0
  case converted => exact eq_of_delivers_value (convert_delivers ha (hv ▸ h0)) he hv h0
  case zeros =>
    exact ⟨add_zero_sum ha hb, sub_zero_difference ha hb, mul_zero_product ha hb, div_zero_dividend ha hb,
      fun h => ⟨sqrt_zero ha h, convert_zero ha h⟩, fmadd_zero_sum ha hb hd, div_by_zero ha hb⟩
  case zeroInt => exact Fmt.isZero_result false
  case infinities =>
    refine ⟨fun hb => ?sum, mul_infinity ha, div_infinity ha, fun hn => ?root, ?conversion, fun hb hz hd => ?product,
      fmadd_infinity_addend ha⟩
    case sum =>
      rw [Fmt.add, Fmt.add, ha]
      exact sumData_infinity hb
    case root => exact FloatResult.isInfinity_of_eq (by simp [Fmt.sqrt, ha, hn])
    case conversion => exact FloatResult.isInfinity_of_eq (by rw [Fmt.convert, ha])
    case product =>
      obtain ⟨hab, hba⟩ := Fmt.fmadd_infiniteProduct (mode := mode) (c := d) ha hb hz
      rw [hab, hba]
      exact ⟨(sumData_infinity hd).1, (sumData_infinity hd).1⟩

end Sys2Proof.Machine
end
